-- ==== Sys2Proof/Word.lean ====
section
/-! DEFINITION. The widths of rule R5 (00_scope.md): addresses, words, command and operand words, pin
identifiers, binary64 patterns. -/

namespace Sys2Proof

/-- A RegisterAddress: an 8-bit byte offset into the device's register space (R5, R61). -/
abbrev RegAddr := BitVec 8

/-- A data word of the bus, 16 bits; its signed value is `BitVec.toInt` (R5, R6). -/
abbrev Word16 := BitVec 16

/-- The command word CMD (R100). -/
abbrev CmdWord := BitVec 32

/-- The operand word OPND (R100). -/
abbrev OpndWord := BitVec 64

/-- An IEEE 754 binary64 pattern (R5). -/
abbrev F64 := BitVec 64

/-- A pin identifier of the collaborator's pin space (R5, R31, R60 (c)). -/
abbrev PinId := BitVec 8

/-- A pin level, one bit: LOW = 0, HIGH = 1 (R8). -/
abbrev Level := Bool

/-- The level LOW (R8). -/
abbrev Level.low : Level := false

/-- The level HIGH (R8). -/
abbrev Level.high : Level := true

/-- A pin mode, one bit: INPUT = 0, OUTPUT = 1 (R8). -/
abbrev PinMode := Bool

/-- The mode INPUT (R8). -/
abbrev PinMode.input : PinMode := false

/-- The mode OUTPUT (R8). -/
abbrev PinMode.output : PinMode := true

end Sys2Proof
end

