-- ==== Sys2Proof/Syntax.lean ====
section
/-! DEFINITION. The command set as syntax: one constructor per row of spec/opcode_table.json (R2, R105), its
operands the free fields of CMD and OPND as rule R102 assembles them. -/

namespace Sys2Proof

/-- The ten commands of rule R105. Operands are the raw fields (R102): no field is checked, shifted or
extended here; which values a command rejects when it executes is rule R108. -/
inductive Instr where
  /-- INIT (R200): POLL_BUDGET in IMM16, the pins and CLKSEL in OPND (R103). -/
  | init (budget : BitVec 16) (cs dr rst dout din sclk : PinId) (clksel : BitVec 4)
  /-- TEARDOWN (R205). -/
  | teardown
  /-- ASSERT_CS (R130). -/
  | assertCs
  /-- DEASSERT_CS (R135). -/
  | deassertCs
  /-- READ_REG (R140): the address as is. -/
  | readReg (addr : RegAddr)
  /-- WRITE_REG (R150): the address and the word sent. -/
  | writeReg (addr : RegAddr) (value : Word16)
  /-- SCALE (R175): the category code and the raw sample. -/
  | scale (cat : BitVec 3) (raw : Word16)
  /-- SCALE.RD (R176): the category code; the raw sample is RDATA. -/
  | scaleRd (cat : BitVec 3)
  /-- SET_LSB (R180): the category code and the binary64 pattern in OPND. -/
  | setLsb (cat : BitVec 3) (value : F64)
  /-- SET_TEMP_OFFSET (R181): the binary64 pattern in OPND. -/
  | setTempOffset (value : F64)
deriving DecidableEq, Repr

/-- The DataTypeCategory codes the block supports (R170); codes 5, 6 and 7 are unsupported. -/
inductive Category where
  | accelerometer
  | gyroscope
  | temperature
  | deltaAngle
  | deltaVelocity
deriving DecidableEq, Repr

end Sys2Proof
end

