-- ==== Sys2Proof/Decode.lean ====
section
/-! DEFINITION. Command decoding, total on every (CMD, OPND) pair (30_encoding.md R100 to R107), and the encoder
from the same tables. -/

namespace Sys2Proof

/-- Why a command word is illegal (R106, R107). -/
inductive IllegalCause where
  /-- Opcode 0x0 or 0xA to 0xF. -/
  | reservedOpcode
  /-- A defined opcode with a non-zero bit outside its free fields. -/
  | nonzeroReservedField
deriving DecidableEq, Repr

/-- What a (CMD, OPND) pair decodes to (R106). -/
inductive Decoded where
  | command (i : Instr)
  | illegal (c : IllegalCause)
deriving DecidableEq, Repr

/-- OP, CMD[3:0] (R101). -/
def fieldOp (cmd : CmdWord) : BitVec 4 := cmd.extractLsb' 0 4

/-- CAT, CMD[6:4] (R101). -/
def fieldCat (cmd : CmdWord) : BitVec 3 := cmd.extractLsb' 4 3

/-- SRC, CMD[7] (R101). -/
def fieldSrc (cmd : CmdWord) : BitVec 1 := cmd.extractLsb' 7 1

/-- ADDR, CMD[15:8] (R101). -/
def fieldAddr (cmd : CmdWord) : RegAddr := cmd.extractLsb' 8 8

/-- IMM16, CMD[31:16] (R101). -/
def fieldImm16 (cmd : CmdWord) : Word16 := cmd.extractLsb' 16 16

/-- The decoder of rule R106. It reads no state. -/
def decode (cmd : CmdWord) (opnd : OpndWord) : Decoded :=
  if fieldOp cmd = 0x1 then
    if fieldCat cmd ≠ 0 ∨ fieldSrc cmd ≠ 0 ∨ fieldAddr cmd ≠ 0 ∨ opnd.extractLsb' 52 12 ≠ 0 then
      .illegal .nonzeroReservedField
    else
      .command (.init (fieldImm16 cmd) (opnd.extractLsb' 0 8) (opnd.extractLsb' 8 8)
        (opnd.extractLsb' 16 8) (opnd.extractLsb' 24 8) (opnd.extractLsb' 32 8)
        (opnd.extractLsb' 40 8) (opnd.extractLsb' 48 4))
  else if fieldOp cmd = 0x2 then
    if cmd.extractLsb' 4 28 ≠ 0 then .illegal .nonzeroReservedField else .command .teardown
  else if fieldOp cmd = 0x3 then
    if cmd.extractLsb' 4 28 ≠ 0 then .illegal .nonzeroReservedField else .command .assertCs
  else if fieldOp cmd = 0x4 then
    if cmd.extractLsb' 4 28 ≠ 0 then .illegal .nonzeroReservedField else .command .deassertCs
  else if fieldOp cmd = 0x5 then
    if fieldImm16 cmd ≠ 0 ∨ cmd.extractLsb' 4 4 ≠ 0 then .illegal .nonzeroReservedField
    else .command (.readReg (fieldAddr cmd))
  else if fieldOp cmd = 0x6 then
    if cmd.extractLsb' 4 4 ≠ 0 then .illegal .nonzeroReservedField
    else .command (.writeReg (fieldAddr cmd) (fieldImm16 cmd))
  else if fieldOp cmd = 0x7 then
    if fieldAddr cmd ≠ 0 then .illegal .nonzeroReservedField
    else if fieldSrc cmd = 0 then .command (.scale (fieldCat cmd) (fieldImm16 cmd))
    else if fieldImm16 cmd ≠ 0 then .illegal .nonzeroReservedField
    else .command (.scaleRd (fieldCat cmd))
  else if fieldOp cmd = 0x8 then
    if cmd.extractLsb' 7 25 ≠ 0 then .illegal .nonzeroReservedField
    else .command (.setLsb (fieldCat cmd) opnd)
  else if fieldOp cmd = 0x9 then
    if cmd.extractLsb' 4 28 ≠ 0 then .illegal .nonzeroReservedField
    else .command (.setTempOffset opnd)
  else .illegal .reservedOpcode

/-- CMD from its fields, most significant first: {IMM16, ADDR, SRC, CAT, OP} (R101). -/
def packCmd (imm : Word16) (addr : RegAddr) (src : BitVec 1) (cat : BitVec 3) (op : BitVec 4) :
    CmdWord :=
  imm ++ addr ++ src ++ cat ++ op

/-- OPND of INIT from its fields, most significant first, OPND[63:52] = 0 (R103). -/
def packPins (cs dr rst dout din sclk : PinId) (clksel : BitVec 4) : OpndWord :=
  (0 : BitVec 12) ++ clksel ++ sclk ++ din ++ dout ++ rst ++ dr ++ cs

/-- The words of a command: rule R105's match with the operands placed in their fields (R101, R103);
every field no operand names is 0 (R115), and so is an OPND the command does not use. -/
def encode : Instr → CmdWord × OpndWord
  | .init budget cs dr rst dout din sclk clksel =>
      (packCmd budget 0 0 0 0x1, packPins cs dr rst dout din sclk clksel)
  | .teardown => (packCmd 0 0 0 0 0x2, 0)
  | .assertCs => (packCmd 0 0 0 0 0x3, 0)
  | .deassertCs => (packCmd 0 0 0 0 0x4, 0)
  | .readReg addr => (packCmd 0 addr 0 0 0x5, 0)
  | .writeReg addr value => (packCmd value addr 0 0 0x6, 0)
  | .scale cat raw => (packCmd raw 0 0 cat 0x7, 0)
  | .scaleRd cat => (packCmd 0 0 1 cat 0x7, 0)
  | .setLsb cat value => (packCmd 0 0 0 cat 0x8, value)
  | .setTempOffset value => (packCmd 0 0 0 0 0x9, value)

/-- The match and mask of a command's row of rule R105. -/
def tableRow : Instr → CmdWord × CmdWord
  | .init .. => (0x00000001, 0x0000FFFF)
  | .teardown => (0x00000002, 0xFFFFFFFF)
  | .assertCs => (0x00000003, 0xFFFFFFFF)
  | .deassertCs => (0x00000004, 0xFFFFFFFF)
  | .readReg _ => (0x00000005, 0xFFFF00FF)
  | .writeReg .. => (0x00000006, 0x000000FF)
  | .scale .. => (0x00000007, 0x0000FF8F)
  | .scaleRd _ => (0x00000087, 0xFFFFFF8F)
  | .setLsb .. => (0x00000008, 0xFFFFFF8F)
  | .setTempOffset _ => (0x00000009, 0xFFFFFFFF)

/-- The (CMD, OPND) pair of a number whose low `nbits` bits are the instruction's: CMD is bits 31..0,
OPND bits 95..32, every bit from `nbits` up is 0. -/
def tableWords (nbits w : Nat) : CmdWord × OpndWord :=
  (BitVec.ofNat 32 (w % 2 ^ nbits), BitVec.ofNat 64 (w % 2 ^ nbits / 2 ^ 32))

/-- The instruction the decoder reads from the table's word `w` of `nbits` bits. -/
def decodeTableWord (nbits w : Nat) : Option Instr :=
  match decode (tableWords nbits w).1 (tableWords nbits w).2 with
  | .command i => some i
  | .illegal _ => none

/-- `READ_SCALED <addr>, <cat>`: READ_REG then SCALE.RD, nothing else (R116). -/
def pseudoReadScaled (addr : RegAddr) (cat : BitVec 3) : List Instr := [.readReg addr, .scaleRd cat]

/-- `SET_TEMP <lsb>, <offset>`: SET_LSB TEMPERATURE then SET_TEMP_OFFSET, nothing else (R116). -/
def pseudoSetTemp (lsb offset : F64) : List Instr := [.setLsb 2 lsb, .setTempOffset offset]

end Sys2Proof
end

