-- ==== Sys2Proof/Machine/Port.lean ====
section
/-! DEFINITION. The primitive port between the block and the collaborator (20_memory.md R70 to R73):
requests, answers and outcomes, as plain data. -/

namespace Sys2Proof.Machine

/-- PREQ_OP, 2 bits (R70). The block never issues `initialize`. -/
inductive PrimOp where
  | initialize_
  | setPinMode
  | setPinLevel
  | readPinLevel
deriving DecidableEq, Repr, Inhabited

/-- The code of PREQ_OP on the port (R70). -/
def PrimOp.code : PrimOp → BitVec 2
  | .initialize_ => 0
  | .setPinMode => 1
  | .setPinLevel => 2
  | .readPinLevel => 3

/-- One request on the primitive port: PREQ_OP, PREQ_PIN, PREQ_ARG (R70). -/
structure Request where
  /-- PREQ_OP. -/
  op : PrimOp
  /-- PREQ_PIN. -/
  pin : PinId
  /-- PREQ_ARG: the mode of a `setPinMode`, the level of a `setPinLevel`, 0 for a `readPinLevel`. -/
  arg : Bool
deriving DecidableEq, Repr, Inhabited

/-- `SETM(p, m)` (R70). -/
def setm (p : PinId) (m : PinMode) : Request := ⟨.setPinMode, p, m⟩

/-- `SETL(p, l)` (R70). -/
def setl (p : PinId) (l : Level) : Request := ⟨.setPinLevel, p, l⟩

/-- `GETL(p)` (R70). -/
def getl (p : PinId) : Request := ⟨.readPinLevel, p, false⟩

/-- What the collaborator does with one request (R71, R73): when its response arrives, if it ever
does, and the response's two fields (R70). -/
structure Answer where
  /-- `some w`: the response arrives in block cycle t + 1 + w, for a request issued in cycle t;
  `none`: it never arrives. -/
  wait : Option Nat
  /-- PRSP_ERR: 1 is a line-level failure. -/
  err : Bool
  /-- PRSP_LEVEL: the level read, meaningful only for a `readPinLevel` with PRSP_ERR = 0. -/
  level : Level
deriving DecidableEq, Repr, Inhabited

/-- The outcome of one primitive (R71). -/
inductive PrimOutcome where
  /-- `OK(l)`: a response in time with PRSP_ERR = 0. -/
  | ok (l : Level)
  /-- A response in time with PRSP_ERR = 1. -/
  | lineFail
  /-- No response within POLL_BUDGET block cycles; the block withdraws the request. -/
  | timeout
deriving DecidableEq, Repr

end Sys2Proof.Machine
end

