-- ==== Sys2Proof/Config.lean ====
section
/-! DEFINITION. What the spec leaves to the instance: the parameters of rule R5 (VALID_ADDR, F_BLK), the
register map of rule R65, and the values nothing fixes (uninterpreted constants). -/

namespace Sys2Proof

/-- The registers of the default register map, by name (20_memory.md R65). -/
inductive RegName where
  | DIAG_STAT
  | X_GYRO_LOW | X_GYRO_OUT | Y_GYRO_LOW | Y_GYRO_OUT | Z_GYRO_LOW | Z_GYRO_OUT
  | X_ACCL_LOW | X_ACCL_OUT | Y_ACCL_LOW | Y_ACCL_OUT | Z_ACCL_LOW | Z_ACCL_OUT
  | TEMP_OUT | TIME_STAMP | DATA_CNTR
  | X_DELTANG_LOW | X_DELTANG_OUT | Y_DELTANG_LOW | Y_DELTANG_OUT | Z_DELTANG_LOW | Z_DELTANG_OUT
  | X_DELTVEL_LOW | X_DELTVEL_OUT | Y_DELTVEL_LOW | Y_DELTVEL_OUT | Z_DELTVEL_LOW | Z_DELTVEL_OUT
  | XG_BIAS_LOW | XG_BIAS_HIGH | YG_BIAS_LOW | YG_BIAS_HIGH | ZG_BIAS_LOW | ZG_BIAS_HIGH
  | XA_BIAS_LOW | XA_BIAS_HIGH | YA_BIAS_LOW | YA_BIAS_HIGH | ZA_BIAS_LOW | ZA_BIAS_HIGH
  | FILT_CTRL | RANG_MDL | MSC_CTRL | UP_SCALE | DEC_RATE
deriving DecidableEq, Repr

/-- The register families of rule R63, in the source's order. -/
inductive RegFamily where
  | status | gyroscope | accelerometer | temperature | timestamp | dataCounter
  | deltaAngle | deltaVelocity | biasCalibration | control
deriving DecidableEq, Repr

/-- The offset of a register in the default map (R65). X_GYRO_LOW, X_GYRO_OUT and DEC_RATE are the
source's (R62); every other offset is PRESUMED (general knowledge G2; log 11). -/
def RegName.offset : RegName → RegAddr
  | .DIAG_STAT => 0x02
  | .X_GYRO_LOW => 0x04 | .X_GYRO_OUT => 0x06
  | .Y_GYRO_LOW => 0x08 | .Y_GYRO_OUT => 0x0A
  | .Z_GYRO_LOW => 0x0C | .Z_GYRO_OUT => 0x0E
  | .X_ACCL_LOW => 0x10 | .X_ACCL_OUT => 0x12
  | .Y_ACCL_LOW => 0x14 | .Y_ACCL_OUT => 0x16
  | .Z_ACCL_LOW => 0x18 | .Z_ACCL_OUT => 0x1A
  | .TEMP_OUT => 0x1C | .TIME_STAMP => 0x1E | .DATA_CNTR => 0x22
  | .X_DELTANG_LOW => 0x24 | .X_DELTANG_OUT => 0x26
  | .Y_DELTANG_LOW => 0x28 | .Y_DELTANG_OUT => 0x2A
  | .Z_DELTANG_LOW => 0x2C | .Z_DELTANG_OUT => 0x2E
  | .X_DELTVEL_LOW => 0x30 | .X_DELTVEL_OUT => 0x32
  | .Y_DELTVEL_LOW => 0x34 | .Y_DELTVEL_OUT => 0x36
  | .Z_DELTVEL_LOW => 0x38 | .Z_DELTVEL_OUT => 0x3A
  | .XG_BIAS_LOW => 0x40 | .XG_BIAS_HIGH => 0x42
  | .YG_BIAS_LOW => 0x44 | .YG_BIAS_HIGH => 0x46
  | .ZG_BIAS_LOW => 0x48 | .ZG_BIAS_HIGH => 0x4A
  | .XA_BIAS_LOW => 0x4C | .XA_BIAS_HIGH => 0x4E
  | .YA_BIAS_LOW => 0x50 | .YA_BIAS_HIGH => 0x52
  | .ZA_BIAS_LOW => 0x54 | .ZA_BIAS_HIGH => 0x56
  | .FILT_CTRL => 0x5C | .RANG_MDL => 0x5E | .MSC_CTRL => 0x60 | .UP_SCALE => 0x62
  | .DEC_RATE => 0x64

/-- The families of rule R63, in the source's order. -/
def RegFamily.all : List RegFamily :=
  [.status, .gyroscope, .accelerometer, .temperature, .timestamp, .dataCounter, .deltaAngle,
   .deltaVelocity, .biasCalibration, .control]

/-- The registers of a family in the default map, in rising order of offset (R63, R65). -/
def RegFamily.registers : RegFamily → List RegName
  | .status => [.DIAG_STAT]
  | .gyroscope => [.X_GYRO_LOW, .X_GYRO_OUT, .Y_GYRO_LOW, .Y_GYRO_OUT, .Z_GYRO_LOW, .Z_GYRO_OUT]
  | .accelerometer => [.X_ACCL_LOW, .X_ACCL_OUT, .Y_ACCL_LOW, .Y_ACCL_OUT, .Z_ACCL_LOW, .Z_ACCL_OUT]
  | .temperature => [.TEMP_OUT]
  | .timestamp => [.TIME_STAMP]
  | .dataCounter => [.DATA_CNTR]
  | .deltaAngle => [.X_DELTANG_LOW, .X_DELTANG_OUT, .Y_DELTANG_LOW, .Y_DELTANG_OUT, .Z_DELTANG_LOW,
      .Z_DELTANG_OUT]
  | .deltaVelocity => [.X_DELTVEL_LOW, .X_DELTVEL_OUT, .Y_DELTVEL_LOW, .Y_DELTVEL_OUT,
      .Z_DELTVEL_LOW, .Z_DELTVEL_OUT]
  | .biasCalibration => [.XG_BIAS_LOW, .XG_BIAS_HIGH, .YG_BIAS_LOW, .YG_BIAS_HIGH, .ZG_BIAS_LOW,
      .ZG_BIAS_HIGH, .XA_BIAS_LOW, .XA_BIAS_HIGH, .YA_BIAS_LOW, .YA_BIAS_HIGH, .ZA_BIAS_LOW,
      .ZA_BIAS_HIGH]
  | .control => [.FILT_CTRL, .RANG_MDL, .MSC_CTRL, .UP_SCALE, .DEC_RATE]

/-- The registers of the default map, in rising order of offset (R65). -/
def RegName.all : List RegName := RegFamily.all.flatMap RegFamily.registers

/-- The parameters of an instance of the block (R5). They are plain data carried by State and changed
by no step, so that a statement about every state is a statement about every instance. -/
structure Config where
  /-- VALID_ADDR, the set of valid register addresses (R64), as a list. -/
  validAddr : List RegAddr
  /-- The offset of RANG_MDL, a member of VALID_ADDR whose value R64 leaves open. -/
  rangMdl : RegAddr
  /-- The offset of UP_SCALE, a member of VALID_ADDR whose value R64 leaves open. -/
  upScale : RegAddr
  /-- F_BLK, the block's clock frequency in Hz, used only for pacing (R275). -/
  fBlk : Nat
deriving DecidableEq, Repr

/-- An address is even and below 0x80: what every member of VALID_ADDR is (R64). -/
def addrInRange (a : RegAddr) : Bool := !a.getLsbD 0 && !a.getLsbD 7

/-- The constraints of rule R64 on VALID_ADDR: every member even and below 0x80, and 0x04, 0x06, 0x64
and the instance's offsets of RANG_MDL and UP_SCALE among them. -/
def Config.wf (c : Config) : Bool :=
  c.validAddr.all addrInRange &&
    c.validAddr.contains 0x04 && c.validAddr.contains 0x06 && c.validAddr.contains 0x64 &&
    c.validAddr.contains c.rangMdl && c.validAddr.contains c.upScale

/-- F_BLK is an open parameter: no value is known of it (R5, D44; log 4). -/
opaque Config.openFBlk : Nat

/-- The default instance: VALID_ADDR and its offsets from rule R65, F_BLK open. -/
def Config.default : Config :=
  { validAddr := RegName.all.map RegName.offset, rangMdl := RegName.RANG_MDL.offset,
    upScale := RegName.UP_SCALE.offset, fBlk := Config.openFBlk }

/-- T_HALF = ceil(F_BLK / 2 MHz), in block cycles (R275, CLKSEL = 0). -/
def Config.tHalf (c : Config) : Nat := (c.fBlk + 1999999) / 2000000

/-- What the collaborator does with the n-th primitive beyond the script of answers: a draw, of which
nothing is known (R71, R73; log 2). -/
opaque Config.freeAnswer : Nat → Machine.Answer

end Sys2Proof
end

