-- ==== Sys2Proof/Machine/State.lean ====
section
/-! DEFINITION. The architectural state of the block (10_state.md), its hidden sequencer state (R35), and, apart
from them, the parameters of the instance and the environment as plain data. -/

namespace Sys2Proof.Machine

/-- HSTATE, the handle state (R22). -/
inductive HState where
  | uninitialized
  | ready
  | transacting
  | closed
deriving DecidableEq, Repr

/-- STATUS, the outcome of the last completed command (R26, R231). Codes 10 to 15 do not exist. -/
inductive Status where
  | ok
  | busError
  | invalidCategory
  | closedHandle
  | initError
  | precondition
  | notReady
  | illegalCommand
  | invalidAddress
  | notConfigured
deriving DecidableEq, Repr

/-- CAUSE, the cause codes of rule R231. -/
inductive Cause where
  | none
  | primTimeout
  | primLineFail
  | gpioNotReady
  | dupPin
  | badClock
  | badBudget
  | csAlreadyAsserted
  | alreadyInitialized
  | noRdata
  | reservedOpcode
  | nonzeroReservedField
deriving DecidableEq, Repr

/-- The scale configuration file (R30). -/
structure ScaleFile where
  /-- LSB[0], accelerometer. -/
  accel : F64
  /-- LSB[1], gyroscope. -/
  gyro : F64
  /-- LSB[2], temperature. -/
  temp : F64
  /-- LSB[3], delta-angle. -/
  dAngle : F64
  /-- LSB[4], delta-velocity. -/
  dVel : F64
  /-- LSB_VALID, bit n for LSB[n]. -/
  lsbValid : BitVec 5
  /-- TEMP_OFFSET. -/
  tempOffset : F64
  /-- OFS_VALID. -/
  ofsValid : Bool
deriving DecidableEq, Repr

/-- The handle configuration (R31). -/
structure HandleConfig where
  /-- PIN_CS, chip-select. -/
  pinCs : PinId
  /-- PIN_DR, data-ready. -/
  pinDr : PinId
  /-- PIN_RST, device reset. -/
  pinRst : PinId
  /-- PIN_DOUT, data out to the device. -/
  pinDout : PinId
  /-- PIN_DIN, data in from the device. -/
  pinDin : PinId
  /-- PIN_SCLK, bus clock. -/
  pinSclk : PinId
  /-- CLKSEL, 0 = 1 MHz. -/
  clksel : BitVec 4
  /-- POLL_BUDGET, in block cycles. -/
  pollBudget : BitVec 16
deriving DecidableEq, Repr

/-- What the primitive in flight is to the running command (R134, R137; log 6). -/
inductive SeqPhase where
  /-- A primitive whose failure fails the command. -/
  | body
  /-- The command's own chip-select release: its outcome only sets CS_FAULT (R134). -/
  | release
  /-- The release after a failure: the command will report this cause and index (R137). -/
  | cleanup (cause : Cause) (k : BitVec 8)
deriving DecidableEq, Repr

/-- The hidden sequencer state (R35) with the request lines of the primitive port (R70). -/
structure Sequencer where
  /-- CMD_L, the latched command. -/
  cmdL : CmdWord
  /-- OPND_L, the latched operand. -/
  opndL : OpndWord
  /-- SEQ, the primitives still to issue. -/
  seq : List Request
  /-- PIDX, the index of the primitive in flight. -/
  pidx : BitVec 8
  /-- SHIFT, the word a READ_REG assembles. -/
  shift : Word16
  /-- PRIM_PENDING, 1 while a request is neither answered nor withdrawn. -/
  primPending : Bool
  /-- PREQ_OP, PREQ_PIN, PREQ_ARG: the request in flight while PRIM_PENDING = 1. -/
  preq : Request
  /-- What the primitive in flight is to the command (log 6). -/
  phase : SeqPhase
  /-- POLL_CNT, block cycles waited for the current primitive (R274). -/
  pollCnt : BitVec 16
  /-- The pacing counter: block cycles before the next SCLK primitive may be issued (R275; log 4). -/
  pace : Nat
deriving DecidableEq, Repr

/-- What is known of the collaborator's pins (R60 (c), R73): lists with strictly rising keys; a pin
that is not listed is unknown (U4 to U6; log 9). Not block state. -/
structure PinBank where
  modes : List (Nat × PinMode)
  levels : List (Nat × Level)
deriving DecidableEq, Repr

/-- An event of the block's inputs, landing between two steps (log 8). -/
inductive Input where
  /-- Nothing happens before this step. -/
  | quiet
  /-- The host has one more command to issue, after those it is already waiting with (R80 to R82). -/
  | offer (cmd : CmdWord) (opnd : OpndWord)
  /-- The platform drives GPIO_READY (R32). -/
  | gpio (level : Bool)
  /-- rst_n changes (R33, R260). -/
  | rst (level : Bool)
deriving DecidableEq, Repr

/-- The environment as plain data: inputs, the collaborator's answers and pins, and the trace. Not
block state (10_state.md head, R32). -/
structure Env where
  /-- The commands the host offers, in order; the head stands on the command port (R80 to R82). -/
  cmdQueue : List (CmdWord × OpndWord)
  /-- The input events still to come, one before each step (log 8). -/
  inputs : List Input
  /-- The input level GPIO_READY (R32). -/
  gpioReady : Bool
  /-- The input level rst_n, active low (R33). -/
  rstN : Bool
  /-- The collaborator's answers already fixed, for the primitives to come (R71; log 2). -/
  answers : List Answer
  /-- How many answers have been drawn beyond the list (log 2). -/
  draws : Nat
  /-- What is known of the pins (R73; log 9). -/
  pins : PinBank
  /-- The primitives issued, in issue order (R72; log 10). -/
  trace : List Request
deriving DecidableEq, Repr

/-- The machine's state. -/
structure State where
  /-- HSTATE (R22). -/
  hstate : HState
  /-- CS_ASSERTED (R23). -/
  csAsserted : Bool
  /-- CS_FAULT (R28). -/
  csFault : Bool
  /-- BUSY (R29). -/
  busy : Bool
  /-- RDATA (R24). -/
  rdata : Word16
  /-- RDATA_VALID (R24). -/
  rdataValid : Bool
  /-- RESULT (R25). -/
  result : F64
  /-- STATUS (R26). -/
  status : Status
  /-- ERR_INFO (R27). -/
  errInfo : BitVec 16
  /-- RSP_VALID, the response channel (R80, R234). -/
  rspValid : Bool
  /-- The scale configuration file (R30). -/
  scale : ScaleFile
  /-- The handle configuration (R31). -/
  handle : HandleConfig
  /-- The hidden sequencer state (R35). -/
  sq : Sequencer
  /-- The parameters of the instance (R5). -/
  cfg : Config
  /-- The environment. -/
  env : Env
deriving DecidableEq, Repr

/-- Why the machine would stop with a fault. There is no such reason: "The block never stops, hangs or
enters a fault state because of an error" (R230). Nothing raises a fault. -/
inductive Fault where
deriving DecidableEq, Repr

/-- Why an instruction has no meaning in the model. -/
inductive Refusal where
  /-- Raised by `exec` for an instruction not modelled yet; safe (the machine stops). No arm raises it. -/
  | notModelled (mnemonic : String)
deriving DecidableEq, Repr

/-- The scale configuration file at reset (R41). -/
def ScaleFile.reset : ScaleFile :=
  { accel := 0, gyro := 0, temp := 0, dAngle := 0, dVel := 0, lsbValid := 0, tempOffset := 0,
    ofsValid := false }

/-- The handle configuration at reset (R41). -/
def HandleConfig.reset : HandleConfig :=
  { pinCs := 0, pinDr := 0, pinRst := 0, pinDout := 0, pinDin := 0, pinSclk := 0, clksel := 0,
    pollBudget := 0 }

/-- The sequencer at reset: idle, SEQ empty, PRIM_PENDING = 0 (R41). The don't-care fields (R35) are 0:
DESIGN CHOICE, log 5. -/
def Sequencer.reset : Sequencer :=
  { cmdL := 0, opndL := 0, seq := [], pidx := 0, shift := 0, primPending := false,
    preq := ⟨.initialize_, 0, false⟩, phase := .body, pollCnt := 0, pace := 0 }

/-- The environment at State.reset: rst_n released, GPIO_READY = 1 (R265; DESIGN CHOICE, log 7), no
command offered, no event, no answer fixed, no pin known, nothing issued. -/
def Env.initial : Env :=
  { cmdQueue := [], inputs := [], gpioReady := true, rstN := true, answers := [], draws := 0,
    pins := { modes := [], levels := [] }, trace := [] }

/-- The machine right after block reset (R41, R260), with the default instance (R65; log 11). -/
def State.reset : State :=
  { hstate := .uninitialized, csAsserted := false, csFault := false, busy := false, rdata := 0,
    rdataValid := false, result := 0, status := .ok, errInfo := 0, rspValid := false,
    scale := ScaleFile.reset, handle := HandleConfig.reset, sq := Sequencer.reset,
    cfg := Config.default, env := Env.initial }

end Sys2Proof.Machine
end

