-- ==== Sys2Proof/Machine/Flags.lean ====
section
/-! DEFINITION. Status, cause and error-detail codes (R26, R27, R231, R232), and the outcome of a primitive from the
collaborator's answer (R71, R274). -/

namespace Sys2Proof.Machine

/-- The HSTATE code (R22). -/
def HState.code : HState → BitVec 2
  | .uninitialized => 0
  | .ready => 1
  | .transacting => 2
  | .closed => 3

/-- The STATUS code (R26). -/
def Status.code : Status → BitVec 4
  | .ok => 0
  | .busError => 1
  | .invalidCategory => 2
  | .closedHandle => 3
  | .initError => 4
  | .precondition => 5
  | .notReady => 6
  | .illegalCommand => 7
  | .invalidAddress => 8
  | .notConfigured => 9

/-- The CAUSE code (R231). -/
def Cause.code : Cause → BitVec 8
  | .none => 0x00
  | .primTimeout => 0x01
  | .primLineFail => 0x02
  | .gpioNotReady => 0x10
  | .dupPin => 0x11
  | .badClock => 0x12
  | .badBudget => 0x13
  | .csAlreadyAsserted => 0x20
  | .alreadyInitialized => 0x21
  | .noRdata => 0x22
  | .reservedOpcode => 0x30
  | .nonzeroReservedField => 0x31

/-- ERR_INFO = {PRIM_IDX, CAUSE} (R27, R234). -/
def errInfoWord (c : Cause) (idx : BitVec 8) : BitVec 16 := idx ++ c.code

/-- The cause of an illegal command (R107). -/
def illegalCause : IllegalCause → Cause
  | .reservedOpcode => .reservedOpcode
  | .nonzeroReservedField => .nonzeroReservedField

/-- The response of `a` arrives in one of the POLL_BUDGET block cycles after the request (R274). -/
def Answer.inTime (budget : BitVec 16) (a : Answer) : Bool :=
  match a.wait with
  | some w => decide (w + 1 ≤ budget.toNat)
  | Option.none => false

/-- Block cycles the block waits for `a`: to its arrival, or to the end of the budget (R274). -/
def Answer.cycles (budget : BitVec 16) (a : Answer) : Nat :=
  match a.wait with
  | some w => if w + 1 ≤ budget.toNat then w + 1 else budget.toNat
  | Option.none => budget.toNat

/-- The outcome of a primitive (R71). -/
def Answer.outcome (budget : BitVec 16) (a : Answer) : PrimOutcome :=
  if a.inTime budget then (if a.err then .lineFail else .ok a.level) else .timeout

/-- The outcome is not OK. -/
def PrimOutcome.failed : PrimOutcome → Bool
  | .ok _ => false
  | .lineFail => true
  | .timeout => true

/-- `cause(o)` (R232); NONE for an OK outcome, which no rule asks for. -/
def causeOf : PrimOutcome → Cause
  | .ok _ => .none
  | .lineFail => .primLineFail
  | .timeout => .primTimeout

end Sys2Proof.Machine
end

