-- ==== Sys2Proof/WellFormed.lean ====
section
/-! DEFINITION. Which commands are well formed: the operand checks of rule R108 that depend on no state. Every
command, well formed or not, has an encoding and decodes (R108: these are not illegal encodings); one
that is not well formed completes with an error in every state. -/

namespace Sys2Proof

/-- The code of a category (R170). -/
def Category.code : Category → BitVec 3
  | .accelerometer => 0
  | .gyroscope => 1
  | .temperature => 2
  | .deltaAngle => 3
  | .deltaVelocity => 4

/-- INIT's six pin identifiers have six distinct values (R200). -/
def sixDistinct (cs dr rst dout din sclk : PinId) : Bool :=
  decide ([cs, dr, rst, dout, din, sclk].Nodup)

/-- The operand checks of rule R108 that depend on no state: INIT's distinct pins, CLKSEL = 0 and
non-zero budget (R200); an address that some VALID_ADDR may hold (R64); a supported category (R170). -/
def Instr.wellFormed : Instr → Bool
  | .init budget cs dr rst dout din sclk clksel =>
      sixDistinct cs dr rst dout din sclk && clksel == 0 && budget != 0
  | .teardown => true
  | .assertCs => true
  | .deassertCs => true
  | .readReg addr => addrInRange addr
  | .writeReg addr _ => addrInRange addr
  | .scale cat _ => decide (cat < 5)
  | .scaleRd cat => decide (cat < 5)
  | .setLsb cat _ => decide (cat < 5)
  | .setTempOffset _ => true

end Sys2Proof
end

