-- ==== Sys2Proof/Machine/Operands.lean ====
section
/-! DEFINITION. Operand forms: request words and primitive sequences (R131 to R133, R136, R200), the shift register's
bits (R133), category codes (R170), the scale file by category (R30), addresses (R64). -/

namespace Sys2Proof.Machine

/-- The direction of a transaction (R131). -/
inductive Direction where
  | read
  | write
deriving DecidableEq, Repr

/-- The RW bit of the request word: 0 = read, 1 = write (R131). -/
def Direction.bit : Direction → BitVec 16
  | .read => 0
  | .write => 1

/-- `REQ(rw, a) = (rw << 15) OR (a[6:0] << 8)` (R131). -/
def reqWord (d : Direction) (a : RegAddr) : Word16 :=
  (d.bit <<< 15) ||| (((a.extractLsb' 0 7).zeroExtend 16) <<< 8)

/-- The bit numbers of a word in the order they cross the bus: `for i = 15 downto 0` (R67, R132). -/
def msbFirst : List Nat := [15, 14, 13, 12, 11, 10, 9, 8, 7, 6, 5, 4, 3, 2, 1, 0]

/-- Sending bit i of `w`: SCLK LOW, DOUT, SCLK HIGH (R132). -/
def sendBit (h : HandleConfig) (w : Word16) (i : Nat) : List Request :=
  [setl h.pinSclk .low, setl h.pinDout (w.getLsbD i), setl h.pinSclk .high]

/-- Receiving one bit: SCLK LOW, SCLK HIGH, GETL DIN (R133). -/
def receiveBit (h : HandleConfig) : List Request :=
  [setl h.pinSclk .low, setl h.pinSclk .high, getl h.pinDin]

/-- Sending a word: 48 primitives (R132). -/
def sendWord (h : HandleConfig) (w : Word16) : List Request := msbFirst.flatMap (sendBit h w)

/-- Receiving a word: 48 primitives (R133). -/
def receiveWord (h : HandleConfig) : List Request := msbFirst.flatMap fun _ => receiveBit h

/-- The 98 primitives of a READ_REG of address `a` (R136, R140). -/
def readSequence (h : HandleConfig) (a : RegAddr) : List Request :=
  setl h.pinCs .low :: (sendWord h (reqWord .read a) ++ receiveWord h ++ [setl h.pinCs .high])

/-- The 98 primitives of a WRITE_REG of `v` to address `a` (R136, R150). -/
def writeSequence (h : HandleConfig) (a : RegAddr) (v : Word16) : List Request :=
  setl h.pinCs .low :: (sendWord h (reqWord .write a) ++ sendWord h v ++ [setl h.pinCs .high])

/-- The ten primitives of INIT (R200). -/
def initSequence (h : HandleConfig) : List Request :=
  [setm h.pinCs .output, setl h.pinCs .high, setm h.pinSclk .output, setl h.pinSclk .high,
   setm h.pinDout .output, setl h.pinDout .low, setm h.pinRst .output, setl h.pinRst .high,
   setm h.pinDin .input, setm h.pinDr .input]

/-- The data bit that GETL primitive k = 51 + 3(15 - i) of a READ_REG receives: i (R136). -/
def dataBitOf (k : BitVec 8) : Nat := 15 - (k.toNat - 51) / 3

/-- `w[i] <- b`. -/
def setBit (w : Word16) (i : Nat) (b : Bool) : Word16 :=
  if b then w ||| ((1 : Word16) <<< i) else w &&& ~~~((1 : Word16) <<< i)

/-- The request is a primitive on the SCLK level, the ones rule R275 paces. -/
def isSclkLevel (h : HandleConfig) (p : Request) : Bool :=
  decide (p.op = .setPinLevel) && decide (p.pin = h.pinSclk)

/-- The category of a code; codes 5, 6 and 7 are unsupported (R170). -/
def categoryOf (cat : BitVec 3) : Option Category :=
  if cat = 0 then some .accelerometer
  else if cat = 1 then some .gyroscope
  else if cat = 2 then some .temperature
  else if cat = 3 then some .deltaAngle
  else if cat = 4 then some .deltaVelocity
  else Option.none

/-- LSB[n] (R30). -/
def ScaleFile.lsb (f : ScaleFile) : Category → F64
  | .accelerometer => f.accel
  | .gyroscope => f.gyro
  | .temperature => f.temp
  | .deltaAngle => f.dAngle
  | .deltaVelocity => f.dVel

/-- LSB_VALID[n] (R30). -/
def ScaleFile.isValid (f : ScaleFile) (c : Category) : Bool := f.lsbValid.getLsbD c.code.toNat

/-- `LSB[n] <- v; LSB_VALID[n] <- 1` (R180). -/
def ScaleFile.setLsb (f : ScaleFile) (c : Category) (v : F64) : ScaleFile :=
  let g := { f with lsbValid := f.lsbValid ||| ((1 : BitVec 5) <<< c.code.toNat) }
  match c with
  | .accelerometer => { g with accel := v }
  | .gyroscope => { g with gyro := v }
  | .temperature => { g with temp := v }
  | .deltaAngle => { g with dAngle := v }
  | .deltaVelocity => { g with dVel := v }

/-- `a` is in VALID_ADDR (R64). -/
def State.addrValid (s : State) (a : RegAddr) : Bool := s.cfg.validAddr.contains a

end Sys2Proof.Machine
end

