-- ==== Sys2Proof/Machine/Ops.lean ====
section
/-! DEFINITION. The shared operations every command is made of: completion (R234), issuing a primitive and taking
its outcome (R70 to R74, R274, R275), the chip-select release (R134), a transaction's walk through its
primitives (R136, R137), and what is known of the pins (R73). -/

namespace Sys2Proof.Machine

/-! ## What is known of the pins -/

/-- Write at a key of a list with rising keys. -/
def cellsPut {α : Type} (k : Nat) (v : α) : List (Nat × α) → List (Nat × α)
  | [] => [(k, v)]
  | (j, w) :: rest =>
    if k < j then (k, v) :: (j, w) :: rest
    else if k = j then (k, v) :: rest
    else (j, w) :: cellsPut k v rest

/-- Forget a key. -/
def cellsErase {α : Type} (k : Nat) : List (Nat × α) → List (Nat × α)
  | [] => []
  | (j, w) :: rest => if k = j then cellsErase k rest else (j, w) :: cellsErase k rest

/-- Read a key; `none` where nothing is known. -/
def cellsGet {α : Type} (k : Nat) : List (Nat × α) → Option α
  | [] => Option.none
  | (j, w) :: rest => if k = j then some w else cellsGet k rest

/-- The keys rise strictly: the one canonical form of a sparse map. -/
abbrev cellsWf {α : Type} (l : List (Nat × α)) : Prop := (l.map Prod.fst).Pairwise (· < ·)

/-- Both maps of the bank are in canonical form. -/
abbrev PinBank.wf (b : PinBank) : Prop := cellsWf b.modes ∧ cellsWf b.levels

/-- The level a pin is known to be driven at. -/
def PinBank.level (b : PinBank) (p : PinId) : Option Level := cellsGet p.toNat b.levels

/-- The mode a pin is known to be in. -/
def PinBank.mode (b : PinBank) (p : PinId) : Option PinMode := cellsGet p.toNat b.modes

/-- The collaborator's side of one primitive: the change is applied if it answers OK, and otherwise
whether the pin changed is unknown (R73, U4, U6). A GETL changes no pin. -/
def PinBank.apply (b : PinBank) (p : Request) (o : PrimOutcome) : PinBank :=
  match p.op with
  | .initialize_ => b
  | .setPinMode =>
    if o.failed then { b with modes := cellsErase p.pin.toNat b.modes }
    else { b with modes := cellsPut p.pin.toNat p.arg b.modes }
  | .setPinLevel =>
    if o.failed then { b with levels := cellsErase p.pin.toNat b.levels }
    else { b with levels := cellsPut p.pin.toNat p.arg b.levels }
  | .readPinLevel => b

/-- After a block reset during a command the levels of all six pins are unknown (R261, U5). -/
def PinBank.forgetLevels (b : PinBank) (h : HandleConfig) : PinBank :=
  { b with levels :=
      cellsErase h.pinCs.toNat (cellsErase h.pinDr.toNat (cellsErase h.pinRst.toNat
        (cellsErase h.pinDout.toNat (cellsErase h.pinDin.toNat
          (cellsErase h.pinSclk.toNat b.levels))))) }

/-! ## Completion -/

/-- `complete(s, c, idx)`: the one way a command ends, with or without an error (R230, R234). It is the
block's form of taking an exception: STATUS and ERR_INFO are written, BUSY falls, the sequencer becomes
idle, RSP_VALID is raised; nothing is saved and control goes nowhere. -/
def State.complete (st : Status) (c : Cause) (idx : BitVec 8) (s : State) : State :=
  { s with
    status := st
    errInfo := errInfoWord c idx
    busy := false
    rspValid := true
    sq := { s.sq with seq := [], primPending := false, phase := .body } }

/-- The completion of a word that decodes to no command (R233). -/
def State.completeIllegal (c : IllegalCause) (s : State) : State :=
  s.complete .illegalCommand (illegalCause c) 0

/-! ## One primitive -/

/-- Issue the primitive `p` with index `k`, `rest` being left in SEQ (R70, R72): the request goes out,
POLL_CNT is cleared (R274), and an SCLK primitive reloads the pacing counter (R275). -/
def State.issue (p : Request) (rest : List Request) (k : BitVec 8) (ph : SeqPhase) (s : State) :
    State :=
  { s with
    sq := { s.sq with
      seq := rest
      pidx := k
      primPending := true
      preq := p
      phase := ph
      pollCnt := 0
      pace := if isSclkLevel s.handle p then s.cfg.tHalf else s.sq.pace }
    env := { s.env with trace := s.env.trace ++ [p] } }

/-- Issue the chip-select release `SETL(PIN_CS, HIGH)`: CS_ASSERTED becomes 0 when it is issued,
whatever its outcome (R23, R134; log 13). -/
def State.issueRelease (k : BitVec 8) (ph : SeqPhase) (s : State) : State :=
  { s.issue (setl s.handle.pinCs .high) [] k ph with csAsserted := false }

/-- Start a command's sequence of primitives with index 0 (R136, R200). -/
def State.startSequence (l : List Request) (s : State) : State :=
  match l with
  | [] => s
  | p :: rest => s.issue p rest 0 .body

/-- The collaborator's answer to the primitive in flight: the next of the script, or a draw (log 2). -/
def Env.answer (e : Env) : Answer :=
  match e.answers with
  | [] => Config.freeAnswer e.draws
  | a :: _ => a

/-- The environment after that answer has been used. -/
def Env.consume (e : Env) : Env :=
  match e.answers with
  | [] => { e with draws := e.draws + 1 }
  | _ :: rest => { e with answers := rest }

/-- The outcome of the primitive in flight (R71, R274). -/
def State.outcome (s : State) : PrimOutcome := s.env.answer.outcome s.handle.pollBudget

/-- The primitive in flight is answered or withdrawn: PRIM_PENDING falls, POLL_CNT has counted the
cycles waited and the pacing counter has run down by them, the pin changes as rule R73 says. -/
def State.settle (s : State) : State :=
  { s with
    sq := { s.sq with
      primPending := false
      pollCnt := BitVec.ofNat 16 (s.env.answer.cycles s.handle.pollBudget)
      pace := s.sq.pace - s.env.answer.cycles s.handle.pollBudget }
    env := { s.env.consume with pins := s.env.pins.apply s.sq.preq s.outcome } }

/-- A release's outcome: a failure sets the sticky CS_FAULT and nothing else (R28, R134). -/
def State.noteRelease (o : PrimOutcome) (s : State) : State :=
  { s with csFault := s.csFault || o.failed }

/-- `SETL(PIN_CS, HIGH)` is among the primitives whose failure fails the command (INIT's primitive 1):
its failure sets CS_FAULT as any failure of that primitive does (R28; log 12). -/
def State.noteCsHigh (o : PrimOutcome) (s : State) : State :=
  { s with
    csFault := s.csFault || (o.failed && decide (s.sq.preq = setl s.handle.pinCs .high)) }

/-! ## A transaction's primitives -/

/-- Issue the next primitive of a transaction; the last one of SEQ is the release, index 97 (R136). -/
def State.advance (s : State) : State :=
  match s.sq.seq with
  | p :: q :: rest => s.issue p (q :: rest) (s.sq.pidx + 1) .body
  | _ => s.issueRelease (s.sq.pidx + 1) .release

/-- What an OK primitive of a transaction does to the block: primitive 0 sets CS_ASSERTED (R23), a GETL
puts its level into SHIFT (R133). -/
def State.absorb (l : Level) (s : State) : State :=
  { s with
    csAsserted := if s.sq.pidx = 0 then true else s.csAsserted
    sq := { s.sq with
      shift := if s.sq.preq.op = .readPinLevel then setBit s.sq.shift (dataBitOf s.sq.pidx) l
        else s.sq.shift } }

/-- The primitive in flight of a READ_REG or WRITE_REG has its outcome (R136, R137, R140, R150).
`commit` and `abort` are what the command writes at an OK and at a BUS_ERROR completion. -/
def State.transactionResume (commit abort : State → State) (s : State) : State :=
  match s.sq.phase with
  | .cleanup cause k =>
    (abort { s.settle.noteRelease s.outcome with hstate := .ready }).complete .busError cause k
  | .release =>
    (commit { s.settle.noteRelease s.outcome with hstate := .ready }).complete .ok .none 0
  | .body =>
    match s.outcome with
    | .ok l => (s.settle.absorb l).advance
    | .lineFail => s.settle.issueRelease (s.sq.pidx + 1) (.cleanup .primLineFail s.sq.pidx)
    | .timeout => s.settle.issueRelease (s.sq.pidx + 1) (.cleanup .primTimeout s.sq.pidx)

/-- Start a transaction: HSTATE becomes TRANSACTING and primitive 0 is issued (R22, R140). -/
def State.startTransaction (l : List Request) (s : State) : State :=
  State.startSequence l { s with hstate := .transacting }

end Sys2Proof.Machine
end

