-- ==== Sys2Proof/Machine/Bus.lean ====
section
/-! DEFINITION. The bus transaction commands ASSERT_CS, DEASSERT_CS, READ_REG and WRITE_REG
(40_bus_transactions.md R130, R135, R140, R150). -/

namespace Sys2Proof.Machine

/-- ASSERT_CS at its acceptance (R130): the checks, then the assert. -/
def assertCsBegin (s : State) : State :=
  if s.hstate = .closed then s.complete .closedHandle .none 0
  else if s.hstate = .uninitialized then s.complete .notReady .none 0
  else if s.csAsserted then s.complete .precondition .csAlreadyAsserted 0
  else s.issue (setl s.handle.pinCs .low) [] 0 .body

/-- ASSERT_CS when its primitive in flight has its outcome (R130): the assert, or the release after a
failed assert, whose outcome only sets CS_FAULT (R134). -/
def assertCsResume (s : State) : State :=
  match s.sq.phase with
  | .cleanup cause k => (s.settle.noteRelease s.outcome).complete .busError cause k
  | .release => (s.settle.noteRelease s.outcome).complete .ok .none 0
  | .body =>
    match s.outcome with
    | .ok _ => { s.settle with csAsserted := true }.complete .ok .none 0
    | .lineFail => s.settle.issueRelease 1 (.cleanup .primLineFail 0)
    | .timeout => s.settle.issueRelease 1 (.cleanup .primTimeout 0)

/-- ASSERT_CS (R130). -/
def execAssertCs (s : State) : Host.Outcome State Fault Refusal :=
  .next (if s.sq.primPending then assertCsResume s else assertCsBegin s)

/-- DEASSERT_CS at its acceptance (R135): OK with no primitive unless READY, else the release. -/
def deassertCsBegin (s : State) : State :=
  if s.hstate ≠ .ready then s.complete .ok .none 0
  else s.issueRelease 0 .release

/-- DEASSERT_CS when its release has its outcome: always OK (R134, R135). -/
def deassertCsResume (s : State) : State :=
  (s.settle.noteRelease s.outcome).complete .ok .none 0

/-- DEASSERT_CS (R135). -/
def execDeassertCs (s : State) : Host.Outcome State Fault Refusal :=
  .next (if s.sq.primPending then deassertCsResume s else deassertCsBegin s)

/-- What a failing READ_REG writes at its completion (R24, R140). -/
def State.clearRead (s : State) : State := { s with rdata := 0, rdataValid := false }

/-- What a successful READ_REG writes at its completion (R24, R140). -/
def State.commitRead (s : State) : State := { s with rdata := s.sq.shift, rdataValid := true }

/-- READ_REG at its acceptance: the checks in the order of rule R140, then primitive 0. -/
def readRegBegin (a : RegAddr) (s : State) : State :=
  if s.hstate = .closed then s.clearRead.complete .closedHandle .none 0
  else if s.hstate = .uninitialized then s.clearRead.complete .notReady .none 0
  else if s.addrValid a = false then s.clearRead.complete .invalidAddress .none 0
  else if s.csAsserted then s.clearRead.complete .precondition .csAlreadyAsserted 0
  else s.startTransaction (readSequence s.handle a)

/-- READ_REG (R140). -/
def execReadReg (a : RegAddr) (s : State) : Host.Outcome State Fault Refusal :=
  .next (if s.sq.primPending then s.transactionResume State.commitRead State.clearRead
    else readRegBegin a s)

/-- WRITE_REG at its acceptance: the checks in the order of rule R150, then primitive 0. -/
def writeRegBegin (a : RegAddr) (v : Word16) (s : State) : State :=
  if s.hstate = .closed then s.complete .closedHandle .none 0
  else if s.hstate = .uninitialized then s.complete .notReady .none 0
  else if s.addrValid a = false then s.complete .invalidAddress .none 0
  else if s.csAsserted then s.complete .precondition .csAlreadyAsserted 0
  else s.startTransaction (writeSequence s.handle a v)

/-- WRITE_REG (R150): RDATA, RDATA_VALID and RESULT are unchanged on every outcome. -/
def execWriteReg (a : RegAddr) (v : Word16) (s : State) : Host.Outcome State Fault Refusal :=
  .next (if s.sq.primPending then s.transactionResume (fun t => t) (fun t => t)
    else writeRegBegin a v s)

end Sys2Proof.Machine
end

