-- ==== Sys2Proof/Machine/Lifecycle.lean ====
section
/-! DEFINITION. The handle life-cycle commands INIT and TEARDOWN (42_handle_lifecycle.md R200, R205). -/

namespace Sys2Proof.Machine

/-- INIT has passed its checks: the eight configuration fields are written and primitive 0 is issued
(R200, R31). -/
def initStart (h : HandleConfig) (s : State) : State :=
  State.startSequence (initSequence h) { s with handle := h }

/-- INIT at its acceptance: the checks in the order of rule R200, then its first primitive. -/
def initBegin (h : HandleConfig) (s : State) : State :=
  if s.hstate = .closed then s.complete .closedHandle .none 0
  else if s.hstate = .ready then s.complete .precondition .alreadyInitialized 0
  else if s.env.gpioReady = false then s.complete .initError .gpioNotReady 0
  else if sixDistinct h.pinCs h.pinDr h.pinRst h.pinDout h.pinDin h.pinSclk = false then
    s.complete .initError .dupPin 0
  else if h.clksel ≠ 0 then s.complete .initError .badClock 0
  else if h.pollBudget = 0 then s.complete .initError .badBudget 0
  else initStart h s

/-- INIT when its primitive in flight has its outcome: a failure completes with INIT_ERROR and index k,
with no undo and HSTATE unchanged, and sets CS_FAULT if the primitive was `SETL(PIN_CS, HIGH)` (R28,
log 12); the last OK makes the handle READY (R200). -/
def initResume (s : State) : State :=
  match s.outcome with
  | .ok _ =>
    match s.settle.sq.seq with
    | [] => { s.settle with hstate := .ready }.complete .ok .none 0
    | p :: rest => s.settle.issue p rest (s.sq.pidx + 1) .body
  | .lineFail => (s.settle.noteCsHigh .lineFail).complete .initError .primLineFail s.sq.pidx
  | .timeout => (s.settle.noteCsHigh .timeout).complete .initError .primTimeout s.sq.pidx

/-- INIT (R200): one primitive a step; PRIM_PENDING says whether it is at its acceptance. -/
def execInit (budget : BitVec 16) (cs dr rst dout din sclk : PinId) (clksel : BitVec 4) (s : State) :
    Host.Outcome State Fault Refusal :=
  .next (if s.sq.primPending then initResume s
    else initBegin
      { pinCs := cs, pinDr := dr, pinRst := rst, pinDout := dout, pinDin := din, pinSclk := sclk,
        clksel := clksel, pollBudget := budget } s)

/-- TEARDOWN at its acceptance (R205): the state checks, then the release if chip-select is held. -/
def teardownBegin (s : State) : State :=
  if s.hstate = .closed then s.complete .closedHandle .none 0
  else if s.hstate = .uninitialized then s.complete .notReady .none 0
  else if s.csAsserted then s.issueRelease 0 .release
  else { s with hstate := .closed }.complete .ok .none 0

/-- TEARDOWN when its release has its outcome (R205, R134). -/
def teardownResume (s : State) : State :=
  { s.settle.noteRelease s.outcome with hstate := .closed }.complete .ok .none 0

/-- TEARDOWN (R205). -/
def execTeardown (s : State) : Host.Outcome State Fault Refusal :=
  .next (if s.sq.primPending then teardownResume s else teardownBegin s)

end Sys2Proof.Machine
end

