-- ==== Sys2Proof/Machine/Float64.lean ====
section
/-! DEFINITION. Binary64 arithmetic (R171, R172): exact values as numbers, one rounding at the end. A finite
pattern's magnitude is counted in units of 2^-1074, the smallest subnormal, so it is a natural number. -/

namespace Sys2Proof.Machine

/-- The canonical quiet NaN, every NaN result of the block (R171, U14). -/
def canonicalNaN : F64 := 0x7FF8000000000000

/-- The sign bit. -/
def fSign (b : F64) : Bool := b.getLsbD 63

/-- The biased exponent field. -/
def fExp (b : F64) : BitVec 11 := b.extractLsb' 52 11

/-- The fraction field. -/
def fFrac (b : F64) : BitVec 52 := b.extractLsb' 0 52

/-- Not an infinity and not a NaN. -/
def isFinite (b : F64) : Bool := fExp b != 0x7FF

/-- A NaN of any payload and sign. -/
def isNaN (b : F64) : Bool := fExp b == 0x7FF && fFrac b != 0

/-- An infinity of either sign. -/
def isInf (b : F64) : Bool := fExp b == 0x7FF && fFrac b == 0

/-- A zero of either sign. -/
def isZero (b : F64) : Bool := fExp b == 0 && fFrac b == 0

/-- The magnitude of a finite pattern in units of 2^-1074. -/
def fMag (b : F64) : Nat :=
  if fExp b = 0 then (fFrac b).toNat else (2 ^ 52 + (fFrac b).toNat) * 2 ^ ((fExp b).toNat - 1)

/-- The value of a finite pattern in units of 2^-1074. -/
def fVal (b : F64) : Int := if fSign b then -(fMag b : Int) else (fMag b : Int)

/-- The infinity of a sign. -/
def fInf (neg : Bool) : F64 := if neg then 0xFFF0000000000000 else 0x7FF0000000000000

/-- The zero of a sign. -/
def fZero (neg : Bool) : F64 := if neg then 0x8000000000000000 else 0x0000000000000000

/-- `x / unit` rounded to an integer, ties to even. -/
def roundHalfEven (x unit : Nat) : Nat :=
  if unit < 2 * (x % unit) ∨ (2 * (x % unit) = unit ∧ (x / unit) % 2 = 1) then x / unit + 1
  else x / unit

/-- How many low bits of `num / den` lie below a 53-bit significand: 0 in the subnormal range (gradual
underflow, R171). -/
def droppedBits (num den : Nat) : Nat := (num / den).log2 + 1 - 53

/-- The low 63 bits (exponent field and fraction field) of `num / den` units of 2^-1074 rounded to
nearest, ties to even; past the largest finite value, infinity (R171). A carry out of the significand
runs into the exponent field, which is what the next binade needs. -/
def roundMag (num den : Nat) : Nat :=
  min (droppedBits num den * 2 ^ 52 + roundHalfEven num (den * 2 ^ droppedBits num den))
    (2047 * 2 ^ 52)

/-- The binary64 of sign `neg` and magnitude `num / den` units of 2^-1074, rounded (R171). -/
def roundF64 (neg : Bool) (num den : Nat) : F64 :=
  BitVec.ofNat 64 ((if neg then 2 ^ 63 else 0) + roundMag num den)

/-- `i16_to_f64(n)`: the binary64 of an integer (R171). -/
def i16ToF64 (n : Int) : F64 := roundF64 (decide (n < 0)) (n.natAbs * 2 ^ 1074) 1

/-- `sint16(r)`, the two's-complement value of a pattern (R6, R172). -/
def sint16 (r : Word16) : Int := r.toInt

/-- `fmul64(a, b)` (R171). -/
def fmul64 (a b : F64) : F64 :=
  if isNaN a || isNaN b then canonicalNaN
  else if isInf a || isInf b then
    if isZero a || isZero b then canonicalNaN else fInf (fSign a ^^ fSign b)
  else roundF64 (fSign a ^^ fSign b) (fMag a * fMag b) (2 ^ 1074)

/-- `fadd64(a, b)` (R171). An exact sum of zero is +0.0 unless both operands are negative. -/
def fadd64 (a b : F64) : F64 :=
  if isNaN a || isNaN b then canonicalNaN
  else if isInf a then
    if isInf b && (fSign a != fSign b) then canonicalNaN else a
  else if isInf b then b
  else if fVal a + fVal b = 0 then fZero (fSign a && fSign b)
  else roundF64 (decide (fVal a + fVal b < 0)) (fVal a + fVal b).natAbs 1

end Sys2Proof.Machine
end

