-- ==== Sys2Proof/Machine/Scaling.lean ====
section
/-! DEFINITION. The scaling datapath commands SCALE, SCALE.RD, SET_LSB and SET_TEMP_OFFSET (41_scaling.md R173 to
R181). They issue no primitive and complete in one step, the same in every handle state. -/

namespace Sys2Proof.Machine

/-- What the conversion answers (R173). -/
inductive ScaleAnswer where
  | value (v : F64)
  | fail (st : Status)
deriving DecidableEq, Repr

/-- The conversion function of rule R173: pure, reading only its arguments and the scale file. The
temperature path rounds twice (not fused). -/
def scaleValue (f : ScaleFile) (r : Word16) (cat : BitVec 3) : ScaleAnswer :=
  match categoryOf cat with
  | Option.none => .fail .invalidCategory
  | some .temperature =>
    if f.isValid .temperature && f.ofsValid then
      .value (fadd64 (fmul64 (i16ToF64 (sint16 r)) (f.lsb .temperature)) f.tempOffset)
    else .fail .notConfigured
  | some c =>
    if f.isValid c then .value (fmul64 (i16ToF64 (sint16 r)) (f.lsb c)) else .fail .notConfigured

/-- The completion of a scale: RESULT is the value, or 0 with the failure's status (R25, R175). -/
def State.completeScale (res : ScaleAnswer) (s : State) : State :=
  match res with
  | .value v => { s with result := v }.complete .ok .none 0
  | .fail st => { s with result := 0 }.complete st .none 0

/-- SCALE (R175). -/
def execScale (cat : BitVec 3) (r : Word16) (s : State) : Host.Outcome State Fault Refusal :=
  .next (s.completeScale (scaleValue s.scale r cat))

/-- SCALE.RD (R176): the category is checked first, then RDATA_VALID, then the configuration. -/
def execScaleRd (cat : BitVec 3) (s : State) : Host.Outcome State Fault Refusal :=
  .next (
    if categoryOf cat = Option.none then { s with result := 0 }.complete .invalidCategory .none 0
    else if s.rdataValid = false then { s with result := 0 }.complete .precondition .noRdata 0
    else s.completeScale (scaleValue s.scale s.rdata cat))

/-- SET_LSB (R180). -/
def execSetLsb (cat : BitVec 3) (v : F64) (s : State) : Host.Outcome State Fault Refusal :=
  .next (
    match categoryOf cat with
    | Option.none => s.complete .invalidCategory .none 0
    | some c => { s with scale := s.scale.setLsb c v }.complete .ok .none 0)

/-- SET_TEMP_OFFSET (R181). -/
def execSetTempOffset (v : F64) (s : State) : Host.Outcome State Fault Refusal :=
  .next ({ s with scale := { s.scale with tempOffset := v, ofsValid := true } }.complete .ok .none 0)

end Sys2Proof.Machine
end

