-- ==== Sys2Proof/Machine/Dispatch.lean ====
section
/-! DEFINITION. exec: one arm per command, each one call of its meaning. -/

namespace Sys2Proof.Machine

def exec (i : Instr) (s : State) : Host.Outcome State Fault Refusal :=
  match i with
  | .init budget cs dr rst dout din sclk clksel => Sys2Proof.Machine.execInit budget cs dr rst dout din sclk clksel s
  | .teardown => Sys2Proof.Machine.execTeardown s
  | .assertCs => Sys2Proof.Machine.execAssertCs s
  | .deassertCs => Sys2Proof.Machine.execDeassertCs s
  | .readReg addr => Sys2Proof.Machine.execReadReg addr s
  | .writeReg addr value => Sys2Proof.Machine.execWriteReg addr value s
  | .scale cat raw => Sys2Proof.Machine.execScale cat raw s
  | .scaleRd cat => Sys2Proof.Machine.execScaleRd cat s
  | .setLsb cat value => Sys2Proof.Machine.execSetLsb cat value s
  | .setTempOffset value => Sys2Proof.Machine.execSetTempOffset value s

end Sys2Proof.Machine
end

