-- ==== Sys2Proof/Machine/Inputs.lean ====
section
/-! DEFINITION. What a step does besides running a command: the input event that lands before it, block reset, the
acceptance of a command, an idle cycle (R80 to R82, R260, R261; log 8). -/

namespace Sys2Proof.Machine

/-- The effect of one input event on the block's inputs (R32, R33, R80). -/
def Env.applyInput (e : Env) : Input → Env
  | .quiet => e
  | .offer cmd opnd => { e with cmdQueue := e.cmdQueue ++ [(cmd, opnd)] }
  | .gpio level => { e with gpioReady := level }
  | .rst level => { e with rstN := level }

/-- The inputs once the next input event, if there is one, has landed. -/
def Env.takeInput (e : Env) : Env :=
  match e.inputs with
  | [] => e
  | ev :: rest => { e with inputs := rest }.applyInput ev

/-- The state once the next input event has landed. -/
def State.takeInput (s : State) : State := { s with env := s.env.takeInput }

/-- What is known of the pins once block reset has landed: with no command running, what was known. A
running command is abandoned and its request withdrawn: the levels of the six pins are unknown (R261,
U5). DESIGN CHOICE, log 20: the mode of the pin whose `setPinMode` is withdrawn is unknown too, as after
a TIMEOUT (U6); the modes of all other pins stay as they were known. The spec speaks of neither. -/
def State.pinsAfterReset (s : State) : PinBank :=
  if s.busy then (s.env.pins.apply s.sq.preq .timeout).forgetLevels s.handle else s.env.pins

/-- While rst_n = 0 every state element is held at its reset value; an outstanding request is withdrawn
and nothing of a running command is committed or completed (R41, R260, R261). What is
known of the pins afterwards is `pinsAfterReset`. The parameters and the environment are not block
state. -/
def State.holdReset (s : State) : State :=
  { State.reset with
    cfg := s.cfg
    env := { s.env with pins := s.pinsAfterReset } }

/-- RSP_VALID is raised for one cycle (R80, R234): every step takes it back before it may raise it. -/
def State.lowerRsp (s : State) : State := { s with rspValid := false }

/-- CMD_READY = NOT BUSY, and 0 while the block is held in reset (R80, R260). -/
def State.cmdReady (s : State) : Bool := s.env.rstN && !s.busy

/-- CMD_VALID: the host stands on the port with a command (R80). -/
def State.cmdValid (s : State) : Bool := !s.env.cmdQueue.isEmpty

/-- The response channel: STATUS while RSP_VALID = 1 (R80, R234). -/
def State.response (s : State) : Option Status := if s.rspValid then some s.status else Option.none

/-- Acceptance: CMD and OPND are latched, BUSY rises, the command leaves the port (R29, R35, R80). -/
def State.accept (cmd : CmdWord) (opnd : OpndWord) (rest : List (CmdWord × OpndWord)) (s : State) :
    State :=
  { s with
    busy := true
    rspValid := false
    sq := { s.sq with cmdL := cmd, opndL := opnd, primPending := false }
    env := { s.env with cmdQueue := rest } }

end Sys2Proof.Machine
end

