-- ==== Sys2Proof/Machine/Step.lean ====
section
/-! DEFINITION. One step of the machine: an input event lands, then one primitive's worth of work (D1, log 1). -/

namespace Sys2Proof.Machine

/-- Run the latched command: the decoder reads CMD_L and OPND_L, which nothing on the port can change
any more (R35, R106); a word that decodes to no command completes as illegal (R233). -/
def runLatched (s : State) : Host.Outcome State Fault Refusal :=
  match decode s.sq.cmdL s.sq.opndL with
  | .command i => exec i s
  | .illegal c => .next (s.completeIllegal c)

/-- The block's part of a step: held in reset, or going on with the running command, or accepting the
command on the port, or idle (R80 to R82, R260). -/
def stepBlock (s : State) : Host.Outcome State Fault Refusal :=
  if s.env.rstN = false then .next s.holdReset
  else if s.busy then runLatched s.lowerRsp
  else
    match s.env.cmdQueue with
    | [] => .next s.lowerRsp
    | (cmd, opnd) :: rest => runLatched (s.accept cmd opnd rest)

/-- One step. -/
def step (s : State) : Host.Outcome State Fault Refusal := stepBlock s.takeInput

/-- `s` with the table's word `w` of `nbits` bits standing alone on the command port of an idle block
out of reset, no input event to come, so that the next step accepts and runs it (log 8). -/
def State.withFetchWord (s : State) (nbits w : Nat) : State :=
  { s with
    busy := false
    sq := { s.sq with seq := [], primPending := false, phase := .body }
    env := { s.env with cmdQueue := [tableWords nbits w], inputs := [], rstN := true } }

end Sys2Proof.Machine
end

