-- ==== Sys2Proof/Machine/Assembler.lean ====
section
/-! DEFINITION. The assembler's operand rules (R115) and the pseudo-commands (R116): a line's operands as plain
data, assembled to commands. The text of a line (commas, comments, case) is not modelled (log 15). -/

namespace Sys2Proof.Machine

/-- `<addr>`: 0x00 to 0xFF, or a register name of rule R65. -/
inductive AddrOperand where
  | number (a : RegAddr)
  | name (n : RegName)
deriving DecidableEq, Repr

/-- `<word>`, `<raw>`: a hex pattern, or a signed decimal from -32768 to 32767. -/
inductive WordOperand where
  | hex (w : Word16)
  | decimal (n : Int)
deriving DecidableEq, Repr

/-- `<cat>`: a category's name, or `#n` for a code 0 to 7. -/
inductive CatOperand where
  | name (c : Category)
  | code (n : BitVec 3)
deriving DecidableEq, Repr

/-- `<f64>`: a hex pattern, or a decimal literal of sign, digits and a count of decimal places. -/
inductive F64Operand where
  | hex (v : F64)
  | decimal (neg : Bool) (digits places : Nat)
deriving DecidableEq, Repr

/-- A line of a program (R115, R116). -/
inductive AsmLine where
  | init (budget : BitVec 16) (cs dr rst dout din sclk : PinId) (clk : Option (BitVec 4))
  | teardown
  | assertCs
  | deassertCs
  | readReg (addr : AddrOperand)
  | writeReg (addr : AddrOperand) (word : WordOperand)
  | scale (cat : CatOperand) (raw : WordOperand)
  | scaleRd (cat : CatOperand)
  | setLsb (cat : CatOperand) (value : F64Operand)
  | setTempOffset (value : F64Operand)
  | readScaled (addr : AddrOperand) (cat : CatOperand)
  | setTemp (lsb offset : F64Operand)
deriving DecidableEq, Repr

/-- An address operand as a field (R115). -/
def AddrOperand.value : AddrOperand → RegAddr
  | .number a => a
  | .name n => n.offset

/-- A word operand as a field; `none` for a decimal out of range (R115). -/
def WordOperand.value : WordOperand → Option Word16
  | .hex w => some w
  | .decimal n => if -32768 ≤ n ∧ n ≤ 32767 then some (BitVec.ofInt 16 n) else Option.none

/-- A category operand as a field (R115, R170). -/
def CatOperand.value : CatOperand → BitVec 3
  | .name c => c.code
  | .code n => n

/-- A binary64 operand: a decimal literal is converted to the nearest binary64, ties to even (R115). -/
def F64Operand.value : F64Operand → F64
  | .hex v => v
  | .decimal neg digits places => roundF64 neg (digits * 2 ^ 1074) (10 ^ places)

/-- The commands a line assembles to; `none` where an operand is out of range. `clk` defaults to 0
(R115); a pseudo-command is two commands (R116). -/
def AsmLine.assemble : AsmLine → Option (List Instr)
  | .init budget cs dr rst dout din sclk clk =>
      some [.init budget cs dr rst dout din sclk (clk.getD 0)]
  | .teardown => some [.teardown]
  | .assertCs => some [.assertCs]
  | .deassertCs => some [.deassertCs]
  | .readReg addr => some [.readReg addr.value]
  | .writeReg addr word => word.value.map fun w => [.writeReg addr.value w]
  | .scale cat raw => raw.value.map fun r => [.scale cat.value r]
  | .scaleRd cat => some [.scaleRd cat.value]
  | .setLsb cat value => some [.setLsb cat.value value.value]
  | .setTempOffset value => some [.setTempOffset value.value]
  | .readScaled addr cat => some (pseudoReadScaled addr.value cat.value)
  | .setTemp lsb offset => some (pseudoSetTemp lsb.value offset.value)

/-- The category meant for a family's words: a pairing for the host, which the block does not check
(R66). -/
def intendedCategory : RegFamily → Option Category
  | .gyroscope => some .gyroscope
  | .accelerometer => some .accelerometer
  | .temperature => some .temperature
  | .deltaAngle => some .deltaAngle
  | .deltaVelocity => some .deltaVelocity
  | .status => Option.none
  | .timestamp => Option.none
  | .dataCounter => Option.none
  | .biasCalibration => Option.none
  | .control => Option.none

end Sys2Proof.Machine
end

