-- ==== Sys2Proof/Machine/Mock.lean ====
section
/-! DEFINITION. The reference mock device of rule R90, as a maker of answer scripts: an oracle for tests, not a
description of the ADIS16475, and nothing in the block depends on it. -/

namespace Sys2Proof.Machine

/-- DEV, a map from addresses to 16-bit words, in the canonical form of `cellsWf` (R90). -/
abbrev Dev := List (Nat × Word16)

/-- DEV[a]; 0 where the test gives no contents (R90 gives none; log 14). -/
def devGet (d : Dev) (a : RegAddr) : Word16 := (cellsGet a.toNat d).getD 0

/-- DEV[a] <- v. -/
def devPut (d : Dev) (a : RegAddr) (v : Word16) : Dev := cellsPut a.toNat v d

/-- An OK answer in the first cycle, with a level. -/
def answerOk (l : Level) : Answer := ⟨some 0, false, l⟩

/-- A line-level failure, answered in the first cycle. -/
def answerFail : Answer := ⟨some 0, true, false⟩

/-- No answer at all. -/
def answerNever : Answer := ⟨Option.none, false, false⟩

/-- The answers to the 98 primitives of a READ_REG on which the device returns `w`: GETL of bit i
returns w[i] (R90, R136). -/
def answersReading (w : Word16) : List Answer :=
  List.replicate 49 (answerOk false) ++
    msbFirst.flatMap (fun i => [answerOk false, answerOk false, answerOk (w.getLsbD i)]) ++
    [answerOk false]

/-- The mock's answers to a command whose primitives are all issued: the word DEV[a] for a READ_REG,
plain OKs for the others (R90). -/
def mockAnswers (d : Dev) : Instr → List Answer
  | .init .. => List.replicate 10 (answerOk false)
  | .teardown => [answerOk false]
  | .assertCs => [answerOk false]
  | .deassertCs => [answerOk false]
  | .readReg a => answersReading (devGet d a)
  | .writeReg .. => List.replicate 98 (answerOk false)
  | .scale .. => []
  | .scaleRd _ => []
  | .setLsb .. => []
  | .setTempOffset _ => []

/-- A failure of primitive `k` makes the command issue a chip-select release next (R130, R137). -/
def releasesAfterFailure (k : Nat) : Instr → Bool
  | .init .. => false
  | .teardown => false
  | .assertCs => true
  | .deassertCs => false
  | .readReg _ => decide (k < 97)
  | .writeReg .. => decide (k < 97)
  | .scale .. => false
  | .scaleRd _ => false
  | .setLsb .. => false
  | .setTempOffset _ => false

/-- The mock's answers to a command for which the test names a failure at index `k`: OK before it, the
failure `bad` at it, and `release` to the release that follows, if one does (R90). -/
def mockAnswersFailing (d : Dev) (i : Instr) (k : Nat) (bad release : Answer) : List Answer :=
  (mockAnswers d i).take k ++ bad :: (if releasesAfterFailure k i then [release] else [])

/-- DEV after a WRITE_REG of (a, v) whose primitives got these answers, in order (none if it was refused,
fewer if it failed or was cut by reset): written exactly when its 97 primitives before the final
release all answered OK, so that the release was issued (R90). -/
def mockAfterWrite (d : Dev) (budget : BitVec 16) (answers : List Answer) (a : RegAddr)
    (v : Word16) : Dev :=
  if decide (97 ≤ answers.length) && (answers.take 97).all (fun x => !(x.outcome budget).failed) then
    devPut d a v
  else d

/-- DEV after a command whose primitives got these answers: only a WRITE_REG writes it (R90). -/
def mockAfter (d : Dev) (budget : BitVec 16) (answers : List Answer) : Instr → Dev
  | .init .. => d
  | .teardown => d
  | .assertCs => d
  | .deassertCs => d
  | .readReg _ => d
  | .writeReg a v => mockAfterWrite d budget answers a v
  | .scale .. => d
  | .scaleRd _ => d
  | .setLsb .. => d
  | .setTempOffset _ => d

end Sys2Proof.Machine
end

