-- ==== Sys2Proof/Machine/Observe.lean ====
section
/-! DEFINITION. The observation port (10_state.md R40): a read-only window of 32 registers of 64 bits. A read is a
function of the state, so it has no side effect and may be made at any time. -/

namespace Sys2Proof.Machine

/-- STATE: [1:0] HSTATE, [2] CS_ASSERTED, [3] BUSY, [4] RDATA_VALID, [5] CS_FAULT (R40). -/
def obsState (s : State) : BitVec 64 :=
  (0 : BitVec 58) ++ BitVec.ofBool s.csFault ++ BitVec.ofBool s.rdataValid ++ BitVec.ofBool s.busy ++
    BitVec.ofBool s.csAsserted ++ s.hstate.code

/-- PINS (R40, R103). -/
def obsPins (h : HandleConfig) : BitVec 64 :=
  (0 : BitVec 12) ++ h.clksel ++ h.pinSclk ++ h.pinDin ++ h.pinDout ++ h.pinRst ++ h.pinDr ++ h.pinCs

/-- The register numbered `n` of the observation window (R40); 0x0E to 0x1F read 0 (U12). -/
def State.obs (s : State) (n : BitVec 5) : BitVec 64 :=
  match n.toNat with
  | 0x00 => obsState s
  | 0x01 => (s.status.code).zeroExtend 64
  | 0x02 => s.errInfo.zeroExtend 64
  | 0x03 => s.rdata.signExtend 64
  | 0x04 => s.result
  | 0x05 => s.scale.accel
  | 0x06 => s.scale.gyro
  | 0x07 => s.scale.temp
  | 0x08 => s.scale.dAngle
  | 0x09 => s.scale.dVel
  | 0x0A => s.scale.tempOffset
  | 0x0B => (BitVec.ofBool s.scale.ofsValid ++ s.scale.lsbValid).zeroExtend 64
  | 0x0C => obsPins s.handle
  | 0x0D => s.handle.pollBudget.zeroExtend 64
  | _ => 0

end Sys2Proof.Machine
end

