-- ==== Sys2Proof/Safety.lean ====
section
/-! DEFINITION. The terms claims are written in: a completion written out (R234), the words and bits of a
transaction, where a running command stands, the machine's invariant, and the chip-select line. -/

namespace Sys2Proof.Machine

/-- `s` with nothing changed but what every completion changes (R234): STATUS, ERR_INFO, BUSY = 0,
RSP_VALID = 1, the sequencer idle. Written out here for claims; it is not what the machine calls. -/
def State.ended (st : Status) (errInfo : BitVec 16) (s : State) : State :=
  { s with
    status := st
    errInfo := errInfo
    busy := false
    rspValid := true
    sq := { s.sq with seq := [], primPending := false, phase := .body } }

/-- `i` issues its primitives in a chip-select window of its own: READ_REG and WRITE_REG (R9, R136). -/
def IsTransaction : Instr → Prop
  | .readReg _ => True
  | .writeReg .. => True
  | .init .. => False
  | .teardown => False
  | .assertCs => False
  | .deassertCs => False
  | .scale .. => False
  | .scaleRd _ => False
  | .setLsb .. => False
  | .setTempOffset _ => False

/-- The sequence of a transaction command (R136); empty for the others. -/
def transactionSequence (h : HandleConfig) : Instr → List Request
  | .readReg a => readSequence h a
  | .writeReg a v => writeSequence h a v
  | .init .. => []
  | .teardown => []
  | .assertCs => []
  | .deassertCs => []
  | .scale .. => []
  | .scaleRd _ => []
  | .setLsb .. => []
  | .setTempOffset _ => []

/-- The address of a transaction command is in VALID_ADDR (R140, R150). -/
def addressValid (s : State) : Instr → Prop
  | .readReg a => s.addrValid a = true
  | .writeReg a _ => s.addrValid a = true
  | .init .. => True
  | .teardown => True
  | .assertCs => True
  | .deassertCs => True
  | .scale .. => True
  | .scaleRd _ => True
  | .setLsb .. => True
  | .setTempOffset _ => True

/-- The four commands of the scaling datapath (41_scaling.md). -/
def IsScaling : Instr → Prop
  | .scale .. => True
  | .scaleRd _ => True
  | .setLsb .. => True
  | .setTempOffset _ => True
  | .init .. => False
  | .teardown => False
  | .assertCs => False
  | .deassertCs => False
  | .readReg _ => False
  | .writeReg .. => False

/-- A chip-select release is in flight as primitive `k` (R134). -/
structure ReleaseInFlight (k : Nat) (s : State) : Prop where
  index : s.sq.pidx.toNat = k
  request : s.sq.preq = setl s.handle.pinCs .high
  noMore : s.sq.seq = []
  deselected : s.csAsserted = false

/-- A primitive failed with this cause (R232). -/
def IsPrimCause (c : Cause) : Prop := c = .primTimeout ∨ c = .primLineFail

/-- Where a transaction stands on its sequence `l` (R136, R137). -/
def TransactionAt (l : List Request) (s : State) : Prop :=
  match s.sq.phase with
  | .body => s.sq.pidx.toNat < 97 ∧ s.sq.preq :: s.sq.seq = l.drop s.sq.pidx.toNat ∧
      s.csAsserted = decide (s.sq.pidx.toNat ≠ 0)
  | .release => ReleaseInFlight 97 s
  | .cleanup cause k => IsPrimCause cause ∧ k.toNat < 97 ∧ ReleaseInFlight (k.toNat + 1) s

/-- INIT's parameter checks hold of the handle configuration (R200). -/
structure HandleBound (h : HandleConfig) : Prop where
  distinct : [h.pinCs, h.pinDr, h.pinRst, h.pinDout, h.pinDin, h.pinSclk].Nodup
  clock : h.clksel = 0
  budget : h.pollBudget ≠ 0

/-- Where the running command `i` stands while its primitive in flight is unanswered. A scaling command
never runs from one step to the next. -/
def Running (s : State) : Instr → Prop
  | .init budget cs dr rst dout din sclk clksel =>
      s.hstate = .uninitialized ∧ s.csAsserted = false ∧ s.sq.phase = .body ∧
      s.handle = ⟨cs, dr, rst, dout, din, sclk, clksel, budget⟩ ∧ HandleBound s.handle ∧
      s.sq.pidx.toNat < 10 ∧ s.sq.preq :: s.sq.seq = (initSequence s.handle).drop s.sq.pidx.toNat
  | .teardown => s.hstate = .ready ∧ s.sq.phase = .release ∧ ReleaseInFlight 0 s
  | .assertCs =>
      s.hstate = .ready ∧
      match s.sq.phase with
      | .body => s.sq.pidx = 0 ∧ s.sq.preq = setl s.handle.pinCs .low ∧ s.sq.seq = [] ∧
          s.csAsserted = false
      | .release => False
      | .cleanup cause k => IsPrimCause cause ∧ k = 0 ∧ ReleaseInFlight 1 s
  | .deassertCs => s.hstate = .ready ∧ s.sq.phase = .release ∧ ReleaseInFlight 0 s
  | .readReg a =>
      s.hstate = .transacting ∧ s.addrValid a = true ∧ TransactionAt (readSequence s.handle a) s
  | .writeReg a v =>
      s.hstate = .transacting ∧ s.addrValid a = true ∧ TransactionAt (writeSequence s.handle a v) s
  | .scale .. => False
  | .scaleRd _ => False
  | .setLsb .. => False
  | .setTempOffset _ => False

/-- The machine's invariant, between steps. -/
structure State.Inv (s : State) : Prop where
  /-- While BUSY = 1 a primitive is in flight and the latched command stands on its sequence (R35). -/
  running : s.busy = true →
    s.sq.primPending = true ∧ ∃ i, decode s.sq.cmdL s.sq.opndL = .command i ∧ Running s i
  /-- While BUSY = 0 the sequencer is idle and HSTATE is not TRANSACTING (R35, R210). -/
  idle : s.busy = false →
    s.hstate ≠ .transacting ∧ s.sq.seq = [] ∧ s.sq.primPending = false ∧ s.sq.phase = .body
  /-- Chip-select is held only in READY and TRANSACTING (R23). -/
  held : s.csAsserted = true → s.hstate = .ready ∨ s.hstate = .transacting
  /-- After INIT has succeeded the configuration is one its checks accept (R22, R200). -/
  bound : s.hstate ≠ .uninitialized → HandleBound s.handle
  /-- RDATA is 0 while RDATA_VALID = 0 (R24, R41). -/
  noPartialRead : s.rdataValid = false → s.rdata = 0
  /-- ERR_INFO is 0 while STATUS = OK (R27). -/
  okDetail : s.status = .ok → s.errInfo = 0
  /-- A constant that was not set since reset is +0.0 (R30, R41). -/
  unsetLsb : ∀ c : Category, s.scale.isValid c = false → s.scale.lsb c = 0
  /-- An offset that was not set since reset is +0.0 (R30, R41). -/
  unsetOffset : s.scale.ofsValid = false → s.scale.tempOffset = 0
  /-- What is known of the pins is in canonical form. -/
  pinsCanonical : s.env.pins.wf
  /-- RSP_VALID marks a completion, so BUSY = 0 with it (R234). -/
  response : s.rspValid = true → s.busy = false

/-- The chip-select line follows CS_ASSERTED wherever nothing has failed (R23, R28, U4). -/
structure State.LineInv (s : State) : Prop where
  /-- While CS_ASSERTED = 1 the line is known to be LOW. -/
  selected : s.csAsserted = true → s.env.pins.level s.handle.pinCs = some .low
  /-- Between commands, with CS_ASSERTED = 0 and CS_FAULT = 0, the line is known to be HIGH. -/
  deselected : s.busy = false → (s.hstate = .ready ∨ s.hstate = .closed) → s.csAsserted = false →
    s.csFault = false → s.env.pins.level s.handle.pinCs = some .high
  /-- From INIT's primitive 2 on the line is known to be HIGH. -/
  configured : s.busy = true → s.hstate = .uninitialized → 2 ≤ s.sq.pidx.toNat →
    s.env.pins.level s.handle.pinCs = some .high

/-- The transitions of HSTATE (R22) other than block reset and staying. -/
def HandleMove (a b : HState) : Prop :=
  (a = .uninitialized ∧ b = .ready) ∨ (a = .ready ∧ b = .transacting) ∨
    (a = .transacting ∧ b = .ready) ∨ (a = .ready ∧ b = .closed)

/-- One OK answer, in time for the budget. -/
def AnsweredOk (budget : BitVec 16) (a : Answer) : Prop := (a.outcome budget).failed = false

/-- The conversion of rule R173 as a relation: with scale file `f`, raw pattern `r` in the category of
this code gives this answer. -/
inductive Converts (f : ScaleFile) (r : Word16) : BitVec 3 → ScaleAnswer → Prop where
  | accelerometer : f.lsbValid.getLsbD 0 = true →
      Converts f r 0 (.value (fmul64 (i16ToF64 r.toInt) f.accel))
  | gyroscope : f.lsbValid.getLsbD 1 = true →
      Converts f r 1 (.value (fmul64 (i16ToF64 r.toInt) f.gyro))
  | temperature : f.lsbValid.getLsbD 2 = true → f.ofsValid = true →
      Converts f r 2 (.value (fadd64 (fmul64 (i16ToF64 r.toInt) f.temp) f.tempOffset))
  | deltaAngle : f.lsbValid.getLsbD 3 = true →
      Converts f r 3 (.value (fmul64 (i16ToF64 r.toInt) f.dAngle))
  | deltaVelocity : f.lsbValid.getLsbD 4 = true →
      Converts f r 4 (.value (fmul64 (i16ToF64 r.toInt) f.dVel))
  | constantMissing {cat : BitVec 3} : cat.toNat < 5 → f.lsbValid.getLsbD cat.toNat = false →
      Converts f r cat (.fail .notConfigured)
  | offsetMissing : f.ofsValid = false → Converts f r 2 (.fail .notConfigured)
  | unsupported {cat : BitVec 3} : 5 ≤ cat.toNat → Converts f r cat (.fail .invalidCategory)

/-- What a scale leaves behind when the conversion answers `ans` (R25, R175): RESULT, STATUS, ERR_INFO. -/
def State.scaled (ans : ScaleAnswer) (s : State) : State :=
  match ans with
  | .value v => { s with result := v }.ended .ok 0x0000
  | .fail st => { s with result := 0 }.ended st 0x0000

/-- The host stands on the port with command `i` (its OPND free where `i` ignores it), the block is
idle and out of reset, and no input event is to come (R80). -/
structure Offered (s : State) (i : Instr) (rest : List (CmdWord × OpndWord)) : Prop where
  quiet : s.env.inputs = []
  outOfReset : s.env.rstN = true
  idle : s.busy = false
  port : ∃ cmd opnd, s.env.cmdQueue = (cmd, opnd) :: rest ∧ decode cmd opnd = .command i

/-- The machine after `n` steps. -/
def State.after (n : Nat) (s : State) : Host.Outcome State Fault Refusal :=
  Host.Core.run Sys2Proof.core n s

/-- The handle is READY, chip-select is not held, and the host offers the transaction command `i`, whose
address is valid: the transaction will run (R140, R150). -/
structure TransactionOffered (s : State) (i : Instr) (rest : List (CmdWord × OpndWord)) : Prop where
  offered : Offered s i rest
  transaction : IsTransaction i
  ready : s.hstate = .ready
  free : s.csAsserted = false
  address : addressValid s i

/-- The answers of the primitives to come are `as`, then `more`. -/
def Answers (s : State) (as more : List Answer) : Prop := s.env.answers = as ++ more

/-- The level the input GPIO_READY stands at, replaced. -/
def State.withGpio (g : Bool) (s : State) : State := { s with env := { s.env with gpioReady := g } }

/-- The commands the host is waiting to issue, replaced. -/
def State.withQueue (q : List (CmdWord × OpndWord)) (s : State) : State :=
  { s with env := { s.env with cmdQueue := q } }

/-- HSTATE, replaced. -/
def State.withHState (h : HState) (s : State) : State := { s with hstate := h }

/-- The distance of two magnitudes. -/
def magDist (x y : Nat) : Nat := (x - y) + (y - x)

end Sys2Proof.Machine
end

