-- ==== Sys2Proof/Certificates/Slice0/Obligations.lean ====
section
/-! DEFINITION. The statements for the provers, in the order of the spec's files: encoding, steps, reset and
observation, the commands rule by rule, whole commands, arithmetic, frames, invariants. -/

open Sys2Proof Sys2Proof.Machine

/-! ## Encoding -/

/-- R105, R106: every command, at every value of its operands, is what its words decode to. -/
def Obligations.DecodeEncodeRoundTrip : Prop :=
  ∀ i : Instr, decode (encode i).1 (encode i).2 = .command i

/-- R105: a word that decodes to a command matches its row; a word that matches a row (and, for INIT,
whose OPND[63:52] is 0) decodes to a command of that row; so no two rows match one word. -/
def Obligations.DecodeMatchesOpcodeTable : Prop :=
  (∀ (cmd : CmdWord) (opnd : OpndWord) (i : Instr), decode cmd opnd = .command i →
    cmd &&& (tableRow i).2 = (tableRow i).1) ∧
  (∀ (cmd : CmdWord) (opnd : OpndWord) (i : Instr), cmd &&& (tableRow i).2 = (tableRow i).1 →
    (cmd.extractLsb' 0 4 = 0x1 → opnd.extractLsb' 52 12 = 0) →
    ∃ j, decode cmd opnd = .command j ∧ tableRow j = tableRow i) ∧
  (∀ (cmd : CmdWord) (i j : Instr), cmd &&& (tableRow i).2 = (tableRow i).1 →
    cmd &&& (tableRow j).2 = (tableRow j).1 → tableRow i = tableRow j)

/-- R107: opcodes 0x0 and 0xA to 0xF are illegal as RESERVED_OPCODE whatever the other bits hold; a
defined opcode is illegal exactly when no row matches (or INIT has OPND[63:52] != 0), always as
NONZERO_RESERVED_FIELD. -/
def Obligations.ReservedWordsAreIllegal : Prop :=
  ∀ (cmd : CmdWord) (opnd : OpndWord),
    let op := (cmd.extractLsb' 0 4).toNat
    (op = 0 ∨ 10 ≤ op → decode cmd opnd = .illegal .reservedOpcode) ∧
    (1 ≤ op → op ≤ 9 →
      (decode cmd opnd = .illegal .nonzeroReservedField ↔
        (∀ i : Instr, cmd &&& (tableRow i).2 ≠ (tableRow i).1) ∨
          (op = 1 ∧ opnd.extractLsb' 52 12 ≠ 0)))

/-- R101, R103, R105: words written out from the tables decode to what they stand for. -/
def Obligations.WordsDecodeAsTabled : Prop :=
  decode 0x00640001 0x00000E0D0C05060A = .command (.init 100 10 6 5 12 13 14 0) ∧
  decode 0x00000605 0 = .command (.readReg 0x06) ∧
  decode 0x12346406 0 = .command (.writeReg 0x64 0x1234) ∧
  decode 0x10000017 0 = .command (.scale 1 0x1000) ∧
  decode 0x000000F7 0 = .command (.scaleRd 7) ∧
  decode 0x00000018 0x3F847AE147AE147B = .command (.setLsb 1 0x3F847AE147AE147B)

/-- R115: the value of each operand form (decimals from -32768 to 32767 and no others, register names,
category names, decimal binary64 literals to the nearest, ties to even); the command each line
assembles to, clk being 0 where it is left out; R116: each pseudo-command is the two commands shown.
Every word emitted decodes to the command it stands for, so no illegal word is emitted. -/
def Obligations.AssemblerEmitsLegalWords : Prop :=
  (∀ (line : AsmLine) (is : List Instr), line.assemble = some is →
    ∀ i ∈ is, decode (encode i).1 (encode i).2 = .command i) ∧
  ((∀ a : RegAddr, (AddrOperand.number a).value = a) ∧
    (∀ n : RegName, (AddrOperand.name n).value = n.offset) ∧
    RegName.X_GYRO_LOW.offset = 0x04 ∧ RegName.X_GYRO_OUT.offset = 0x06 ∧
    RegName.DEC_RATE.offset = 0x64) ∧
  ((∀ w : Word16, (WordOperand.hex w).value = some w) ∧
    (∀ n : Int, -32768 ≤ n → n ≤ 32767 →
      ∃ w : Word16, (WordOperand.decimal n).value = some w ∧ w.toInt = n) ∧
    (∀ n : Int, n < -32768 ∨ 32767 < n → (WordOperand.decimal n).value = none)) ∧
  ((CatOperand.name .accelerometer).value = 0 ∧ (CatOperand.name .gyroscope).value = 1 ∧
    (CatOperand.name .temperature).value = 2 ∧ (CatOperand.name .deltaAngle).value = 3 ∧
    (CatOperand.name .deltaVelocity).value = 4 ∧ ∀ n : BitVec 3, (CatOperand.code n).value = n) ∧
  ((∀ v : F64, (F64Operand.hex v).value = v) ∧
    ∀ (neg : Bool) (digits places : Nat),
      let v := (F64Operand.decimal neg digits places).value
      fSign v = neg ∧
      (digits * 2 ^ 1074 < (2 ^ 54 - 1) * 2 ^ 2044 * 10 ^ places →
        isFinite v = true ∧
        ∀ c : F64, isFinite c = true →
          magDist (fMag v * 10 ^ places) (digits * 2 ^ 1074) ≤
            magDist (fMag c * 10 ^ places) (digits * 2 ^ 1074) ∧
          (magDist (fMag c * 10 ^ places) (digits * 2 ^ 1074) =
              magDist (fMag v * 10 ^ places) (digits * 2 ^ 1074) →
            fMag c = fMag v ∨ v.getLsbD 0 = false)) ∧
      ((2 ^ 54 - 1) * 2 ^ 2044 * 10 ^ places ≤ digits * 2 ^ 1074 → isInf v = true)) ∧
  ((∀ (budget : BitVec 16) (cs dr rst dout din sclk : PinId),
      (AsmLine.init budget cs dr rst dout din sclk none).assemble =
        some [.init budget cs dr rst dout din sclk 0]) ∧
    (∀ (budget : BitVec 16) (cs dr rst dout din sclk : PinId) (clk : BitVec 4),
      (AsmLine.init budget cs dr rst dout din sclk (some clk)).assemble =
        some [.init budget cs dr rst dout din sclk clk]) ∧
    AsmLine.teardown.assemble = some [.teardown] ∧ AsmLine.assertCs.assemble = some [.assertCs] ∧
    AsmLine.deassertCs.assemble = some [.deassertCs] ∧
    (∀ a : AddrOperand, (AsmLine.readReg a).assemble = some [.readReg a.value]) ∧
    (∀ (a : AddrOperand) (w : WordOperand),
      (∀ v, w.value = some v → (AsmLine.writeReg a w).assemble = some [.writeReg a.value v]) ∧
      (w.value = none → (AsmLine.writeReg a w).assemble = none)) ∧
    (∀ (c : CatOperand) (w : WordOperand),
      (∀ v, w.value = some v → (AsmLine.scale c w).assemble = some [.scale c.value v]) ∧
      (w.value = none → (AsmLine.scale c w).assemble = none)) ∧
    (∀ c : CatOperand, (AsmLine.scaleRd c).assemble = some [.scaleRd c.value]) ∧
    (∀ (c : CatOperand) (v : F64Operand),
      (AsmLine.setLsb c v).assemble = some [.setLsb c.value v.value]) ∧
    (∀ v : F64Operand, (AsmLine.setTempOffset v).assemble = some [.setTempOffset v.value])) ∧
  (∀ (a : AddrOperand) (c : CatOperand),
    (AsmLine.readScaled a c).assemble = some [.readReg a.value, .scaleRd c.value]) ∧
  (∀ l o : F64Operand,
    (AsmLine.setTemp l o).assemble = some [.setLsb 2 l.value, .setTempOffset o.value])

/-! ## Steps and the command port -/

/-- R35, R80, R106: out of reset and idle, a step accepts the command on the port and is exec of what it
decodes to, at the state with CMD and OPND latched, BUSY = 1 and the port moved on. The input event
that lands first is `takeInput`. -/
def Obligations.StepRunsOfferedCommand : Prop :=
  ∀ (s : State) (cmd : CmdWord) (opnd : OpndWord) (rest : List (CmdWord × OpndWord)) (i : Instr),
    s.takeInput.env.rstN = true → s.takeInput.busy = false →
    s.takeInput.env.cmdQueue = (cmd, opnd) :: rest → decode cmd opnd = .command i →
    step s = exec i
      { s.takeInput with
        busy := true
        rspValid := false
        sq := { s.takeInput.sq with cmdL := cmd, opndL := opnd, primPending := false }
        env := { s.takeInput.env with cmdQueue := rest } }

/-- R35, R82: while BUSY = 1 a step goes on with the latched command, whatever stands on the port;
and with nothing on the port an idle block only lowers RSP_VALID. -/
def Obligations.StepResumesLatchedCommand : Prop :=
  (∀ (s : State) (i : Instr), s.takeInput.env.rstN = true → s.takeInput.busy = true →
    decode s.sq.cmdL s.sq.opndL = .command i →
    step s = exec i { s.takeInput with rspValid := false }) ∧
  (∀ s : State, s.takeInput.env.rstN = true → s.takeInput.busy = false →
    s.takeInput.env.cmdQueue = [] → step s = .next { s.takeInput with rspValid := false })

/-- R230: the block never stops or enters a fault state: every step of every state gives a next state,
and so does exec of every command. -/
def Obligations.MachineNeverStops : Prop :=
  (∀ s : State, ∃ t, step s = .next t) ∧ (∀ (i : Instr) (s : State), ∃ t, exec i s = .next t)

/-- R81, R82: while BUSY = 1 the commands offered so far, the one that lands in this very step among them,
stay on the port, none accepted and none lost, and what else stands there changes nothing else of the
step; an offer goes to the end of the queue, a level of GPIO_READY or rst_n is that input's level from
then on (R32, R33), and an event changes nothing else. That one event of a list lands before each
step is the model's choice (log 8). -/
def Obligations.OffersWaitWhileBusy : Prop :=
  (∀ (s t : State) (q : List (CmdWord × OpndWord)), s.takeInput.env.rstN = true →
    s.busy = true → step s = .next t →
    t.env.cmdQueue = s.takeInput.env.cmdQueue ∧
    step (s.withQueue q) = .next (t.withQueue (s.withQueue q).takeInput.env.cmdQueue)) ∧
  (∀ s : State, s.env.inputs = [] → s.takeInput = s) ∧
  (∀ (s : State) (later : List Input),
    (s.env.inputs = .quiet :: later →
      s.takeInput = { s with env := { s.env with inputs := later } }) ∧
    (∀ cmd opnd, s.env.inputs = .offer cmd opnd :: later →
      s.takeInput = { s with
        env := { s.env with inputs := later, cmdQueue := s.env.cmdQueue ++ [(cmd, opnd)] } }) ∧
    (∀ level, s.env.inputs = .gpio level :: later →
      s.takeInput = { s with env := { s.env with inputs := later, gpioReady := level } }) ∧
    (∀ level, s.env.inputs = .rst level :: later →
      s.takeInput = { s with env := { s.env with inputs := later, rstN := level } }))

/-- R233: a word that decodes to no command completes with ILLEGAL_COMMAND (7) and its cause in every
handle state, issues no primitive and changes nothing but STATUS, ERR_INFO and BUSY (and RSP_VALID,
which every completion raises, and the latched words). -/
def Obligations.IllegalCommandCompletes : Prop :=
  Status.code .illegalCommand = 7 ∧
  ∀ (s : State) (cmd : CmdWord) (opnd : OpndWord) (rest : List (CmdWord × OpndWord))
    (c : IllegalCause),
    s.env.inputs = [] → s.env.rstN = true → s.busy = false →
    s.env.cmdQueue = (cmd, opnd) :: rest → decode cmd opnd = .illegal c →
    step s = .next
      { s with
        status := .illegalCommand
        errInfo := (match c with
          | .reservedOpcode => 0x0030
          | .nonzeroReservedField => 0x0031)
        busy := false
        rspValid := true
        sq := { s.sq with cmdL := cmd, opndL := opnd, seq := [], primPending := false, phase := .body }
        env := { s.env with cmdQueue := rest } }

/-- R72: a step issues at most one primitive, which is then the one in flight; every other step leaves
the trace alone. -/
def Obligations.OnePrimitiveAtATime : Prop :=
  ∀ s t : State, step s = .next t →
    t.env.trace = s.env.trace ∨
      (t.env.trace = s.env.trace ++ [t.sq.preq] ∧ t.sq.primPending = true)

/-- R71, R274: a response in one of the POLL_BUDGET cycles after the request gives LINE_FAIL or OK with
its level by PRSP_ERR; a later one, or none, gives TIMEOUT after POLL_BUDGET cycles. Arrival `some w`
is cycle t + 1 + w. -/
def Obligations.PollBudgetDecidesTimeout : Prop :=
  ∀ (budget : BitVec 16) (err : Bool) (level : Level),
    (∀ w : Nat, w + 1 ≤ budget.toNat →
      (Answer.mk (some w) err level).outcome budget = (if err then .lineFail else .ok level) ∧
      (Answer.mk (some w) err level).cycles budget = w + 1) ∧
    (∀ w : Nat, budget.toNat < w + 1 →
      (Answer.mk (some w) err level).outcome budget = .timeout ∧
      (Answer.mk (some w) err level).cycles budget = budget.toNat) ∧
    ((Answer.mk none err level).outcome budget = .timeout ∧
      (Answer.mk none err level).cycles budget = budget.toNat)

/-- R32, U19: GPIO_READY is sampled only when INIT is accepted: a step that accepts no INIT is the same
at either level. -/
def Obligations.GpioReadySampledOnlyAtInit : Prop :=
  ∀ (s t : State) (g : Bool), s.Inv → s.env.inputs = [] →
    (∀ cmd opnd rest, s.busy = false → s.env.cmdQueue = (cmd, opnd) :: rest →
      ∀ budget cs dr rst dout din sclk clksel,
        decode cmd opnd ≠ .command (.init budget cs dr rst dout din sclk clksel)) →
    step s = .next t → step (s.withGpio g) = .next (t.withGpio g)

/-! ## Reset and observation -/

/-- R41: while rst_n = 0 a step leaves every state element at its reset value. -/
def Obligations.BlockResetSetsResetValues : Prop :=
  ∀ s : State, s.takeInput.env.rstN = false →
    ∃ t, step s = .next t ∧
      t.hstate = .uninitialized ∧ t.csAsserted = false ∧ t.busy = false ∧ t.rdata = 0x0000 ∧
      t.rdataValid = false ∧ t.result = 0x0000000000000000 ∧ t.status = .ok ∧ t.errInfo = 0x0000 ∧
      t.csFault = false ∧
      t.scale.accel = 0 ∧ t.scale.gyro = 0 ∧ t.scale.temp = 0 ∧ t.scale.dAngle = 0 ∧
      t.scale.dVel = 0 ∧ t.scale.lsbValid = 0b00000 ∧ t.scale.tempOffset = 0 ∧
      t.scale.ofsValid = false ∧
      t.handle.pinCs = 0x00 ∧ t.handle.pinDr = 0x00 ∧ t.handle.pinRst = 0x00 ∧
      t.handle.pinDout = 0x00 ∧ t.handle.pinDin = 0x00 ∧ t.handle.pinSclk = 0x00 ∧
      t.handle.clksel = 0 ∧ t.handle.pollBudget = 0x0000 ∧
      t.sq.seq = [] ∧ t.sq.primPending = false

/-- R260, R261: while rst_n = 0 no command is accepted, no primitive is issued, no completion is
signalled, a running command is abandoned with nothing of it committed and, if one was running, the
levels of the six pins are unknown; with rst_n back at 1 the block is idle and ready. That the mode of
the pin whose SETM is withdrawn is unknown, and every other pin's mode as known before, is the model's
choice (log 20). -/
def Obligations.ResetAbandonsCommand : Prop :=
  ∀ s : State, s.takeInput.env.rstN = false →
    ∃ t, step s = .next t ∧ t.cmdReady = false ∧ t.response = none ∧
      t.env.cmdQueue = s.takeInput.env.cmdQueue ∧ t.env.trace = s.env.trace ∧
      t.env.answers = s.env.answers ∧ t.cfg = s.cfg ∧
      (s.busy = true → ∀ p ∈ [s.handle.pinCs, s.handle.pinDr, s.handle.pinRst, s.handle.pinDout,
        s.handle.pinDin, s.handle.pinSclk], t.env.pins.level p = none) ∧
      (s.busy = true →
        (s.sq.preq.op = .setPinMode → t.env.pins.mode s.sq.preq.pin = none) ∧
        (∀ p : PinId, s.sq.preq.op ≠ .setPinMode ∨ p ≠ s.sq.preq.pin →
          t.env.pins.mode p = s.env.pins.mode p)) ∧
      (s.busy = false → t.env.pins = s.env.pins) ∧
      State.cmdReady { t with env := { t.env with rstN := true } } = true

/-- R260: without block reset no step leaves CLOSED, clears CS_FAULT or clears a valid bit. -/
def Obligations.OnlyResetLeavesClosed : Prop :=
  ∀ s t : State, s.Inv → s.takeInput.env.rstN = true → step s = .next t →
    (s.hstate = .closed → t.hstate = .closed) ∧ (s.csFault = true → t.csFault = true) ∧
    (∀ n : Nat, s.scale.lsbValid.getLsbD n = true → t.scale.lsbValid.getLsbD n = true) ∧
    (s.scale.ofsValid = true → t.scale.ofsValid = true)

/-- R40, R26: the layout of the observation window; bits and registers not listed read 0; the ten codes of
STATUS. -/
def Obligations.ObservationLayout : Prop :=
  (Status.code .ok = 0 ∧ Status.code .busError = 1 ∧ Status.code .invalidCategory = 2 ∧
    Status.code .closedHandle = 3 ∧ Status.code .initError = 4 ∧ Status.code .precondition = 5 ∧
    Status.code .notReady = 6 ∧ Status.code .illegalCommand = 7 ∧
    Status.code .invalidAddress = 8 ∧ Status.code .notConfigured = 9) ∧
  ∀ s : State,
    (s.obs 0x00).extractLsb' 0 2 = s.hstate.code ∧
    (s.obs 0x00).getLsbD 2 = s.csAsserted ∧ (s.obs 0x00).getLsbD 3 = s.busy ∧
    (s.obs 0x00).getLsbD 4 = s.rdataValid ∧ (s.obs 0x00).getLsbD 5 = s.csFault ∧
    (s.obs 0x00).extractLsb' 6 58 = 0 ∧
    (s.obs 0x01).extractLsb' 0 4 = s.status.code ∧ (s.obs 0x01).extractLsb' 4 60 = 0 ∧
    (s.obs 0x02).extractLsb' 0 16 = s.errInfo ∧ (s.obs 0x02).extractLsb' 16 48 = 0 ∧
    (s.obs 0x03).toInt = s.rdata.toInt ∧ s.obs 0x04 = s.result ∧
    s.obs 0x05 = s.scale.accel ∧ s.obs 0x06 = s.scale.gyro ∧ s.obs 0x07 = s.scale.temp ∧
    s.obs 0x08 = s.scale.dAngle ∧ s.obs 0x09 = s.scale.dVel ∧ s.obs 0x0A = s.scale.tempOffset ∧
    (s.obs 0x0B).extractLsb' 0 5 = s.scale.lsbValid ∧ (s.obs 0x0B).getLsbD 5 = s.scale.ofsValid ∧
    (s.obs 0x0B).extractLsb' 6 58 = 0 ∧
    (s.obs 0x0C).extractLsb' 0 8 = s.handle.pinCs ∧ (s.obs 0x0C).extractLsb' 8 8 = s.handle.pinDr ∧
    (s.obs 0x0C).extractLsb' 16 8 = s.handle.pinRst ∧
    (s.obs 0x0C).extractLsb' 24 8 = s.handle.pinDout ∧
    (s.obs 0x0C).extractLsb' 32 8 = s.handle.pinDin ∧
    (s.obs 0x0C).extractLsb' 40 8 = s.handle.pinSclk ∧
    (s.obs 0x0C).extractLsb' 48 4 = s.handle.clksel ∧ (s.obs 0x0C).extractLsb' 52 12 = 0 ∧
    (s.obs 0x0D).extractLsb' 0 16 = s.handle.pollBudget ∧ (s.obs 0x0D).extractLsb' 16 48 = 0 ∧
    (∀ n : BitVec 5, 0x0E ≤ n.toNat → s.obs n = 0)

/-- R41, R40 (vector V70-1): after reset every observation register reads 0, and the machine meets its
two invariants. -/
def Obligations.ResetReadsZeroAndIsSafe : Prop :=
  (∀ n : BitVec 5, State.reset.obs n = 0) ∧ State.reset.Inv ∧ State.reset.LineInv

/-- R64, R65: the default register map has 45 addresses in rising order and meets the constraints on
VALID_ADDR, RANG_MDL and UP_SCALE in it; 0x00, 0x20, 0x3C, 0x3E, 0x58, 0x5A and 0x66 up are not. -/
def Obligations.DefaultRegisterMap : Prop :=
  Config.default.validAddr.length = 45 ∧
  (Config.default.validAddr.map BitVec.toNat).Pairwise (· < ·) ∧
  Config.default.wf = true ∧ Config.default.rangMdl = 0x5E ∧ Config.default.upScale = 0x62 ∧
  RegName.RANG_MDL.offset ∈ Config.default.validAddr ∧
  RegName.UP_SCALE.offset ∈ Config.default.validAddr ∧
  (∀ a ∈ [0x00, 0x20, 0x3C, 0x3E, 0x58, 0x5A], a ∉ Config.default.validAddr) ∧
  (∀ a : RegAddr, 0x66 ≤ a.toNat → a ∉ Config.default.validAddr)

/-- R68: with any VALID_ADDR that meets rule R64, a READ_REG or WRITE_REG of an odd address, or of one
of 0x80 or above, in READY completes with INVALID_ADDRESS and no primitive. -/
def Obligations.OddAddressIsInvalid : Prop :=
  ∀ (s : State) (a : RegAddr) (v : Word16), s.cfg.wf = true → s.sq.primPending = false →
    s.hstate = .ready → (a.toNat % 2 = 1 ∨ 0x80 ≤ a.toNat) →
    exec (.readReg a) s = .next ({ s with rdata := 0, rdataValid := false }.ended .invalidAddress 0) ∧
    exec (.writeReg a v) s = .next (s.ended .invalidAddress 0)

/-! ## INIT and TEARDOWN -/

/-- R200: INIT's checks, in order, each leaving nothing changed but STATUS and ERR_INFO. -/
def Obligations.InitChecksInOrder : Prop :=
  ∀ (s : State) (budget : BitVec 16) (cs dr rst dout din sclk : PinId) (clksel : BitVec 4),
    s.sq.primPending = false →
    let run := exec (.init budget cs dr rst dout din sclk clksel) s
    (s.hstate = .closed → run = .next (s.ended .closedHandle 0x0000)) ∧
    (s.hstate = .ready → run = .next (s.ended .precondition 0x0021)) ∧
    (s.hstate = .uninitialized →
      (s.env.gpioReady = false → run = .next (s.ended .initError 0x0010)) ∧
      (s.env.gpioReady = true →
        (¬ [cs, dr, rst, dout, din, sclk].Nodup → run = .next (s.ended .initError 0x0011)) ∧
        ([cs, dr, rst, dout, din, sclk].Nodup →
          (clksel ≠ 0 → run = .next (s.ended .initError 0x0012)) ∧
          (clksel = 0 → budget = 0 → run = .next (s.ended .initError 0x0013)))))

/-- R200, R31: an INIT whose checks pass writes the eight configuration fields and issues primitive 0,
`SETM(PIN_CS, OUTPUT)`, with the other nine still to come; nothing else changes. -/
def Obligations.InitBindsAndStarts : Prop :=
  ∀ (s : State) (budget : BitVec 16) (cs dr rst dout din sclk : PinId),
    s.sq.primPending = false → s.hstate = .uninitialized → s.env.gpioReady = true →
    [cs, dr, rst, dout, din, sclk].Nodup → budget ≠ 0 →
    exec (.init budget cs dr rst dout din sclk 0) s = .next
      { s with
        handle := ⟨cs, dr, rst, dout, din, sclk, 0, budget⟩
        sq := { s.sq with
          seq := [setl cs .high, setm sclk true, setl sclk .high, setm dout true, setl dout .low,
            setm rst true, setl rst .high, setm din false, setm dr false]
          pidx := 0
          primPending := true
          preq := setm cs true
          phase := .body
          pollCnt := 0 }
        env := { s.env with trace := s.env.trace ++ [setm cs true] } }

/-- R200: when INIT's primitive k is answered OK the next is issued, and after the last the handle is
READY and INIT completes OK; when it fails INIT completes with INIT_ERROR, the cause and index k,
HSTATE and the configuration as they are, and no undo primitive; a failed `SETL(PIN_CS, HIGH)` sets
CS_FAULT too (R28, log 12). -/
def Obligations.InitPrimitiveOutcome : Prop :=
  ∀ (s : State) (budget : BitVec 16) (cs dr rst dout din sclk : PinId) (clksel : BitVec 4),
    s.sq.primPending = true →
    (∀ l : Level, s.outcome = .ok l →
      (s.sq.seq = [] → ∃ t, exec (.init budget cs dr rst dout din sclk clksel) s = .next t ∧
        t.hstate = .ready ∧ t.status = .ok ∧ t.errInfo = 0x0000 ∧ t.busy = false ∧
        t.rspValid = true ∧ t.csFault = s.csFault ∧ t.sq.primPending = false ∧
        t.env.trace = s.env.trace) ∧
      (∀ p rest, s.sq.seq = p :: rest →
        ∃ t, exec (.init budget cs dr rst dout din sclk clksel) s = .next t ∧
          t.hstate = s.hstate ∧ t.sq.preq = p ∧ t.sq.seq = rest ∧ t.sq.pidx = s.sq.pidx + 1 ∧
          t.sq.primPending = true ∧ t.env.trace = s.env.trace ++ [p] ∧ t.busy = s.busy ∧
          t.csFault = s.csFault)) ∧
    (s.outcome.failed = true → ∃ t, exec (.init budget cs dr rst dout din sclk clksel) s = .next t ∧
      t.hstate = s.hstate ∧ t.handle = s.handle ∧ t.status = .initError ∧
      t.errInfo = s.sq.pidx ++ (if s.outcome = .timeout then (0x01 : BitVec 8) else 0x02) ∧
      t.csFault = (s.csFault || decide (s.sq.preq = setl s.handle.pinCs .high)) ∧
      t.busy = false ∧ t.rspValid = true ∧ t.env.trace = s.env.trace)

/-- R200, a whole INIT: offered in UNINITIALIZED with GPIO_READY = 1 and parameters its checks accept,
and ten OK answers, it makes the handle READY in eleven steps, with exactly the ten primitives of the
rule issued, CS_ASSERTED = 0 and RDATA, RESULT and the scale configuration unchanged. That a step is
one primitive, hence the count of steps, is the model's choice (log 1). -/
def Obligations.InitMakesHandleReady : Prop :=
  ∀ (s : State) (budget : BitVec 16) (cs dr rst dout din sclk : PinId)
    (rest : List (CmdWord × OpndWord)) (as more : List Answer),
    Offered s (.init budget cs dr rst dout din sclk 0) rest →
    s.hstate = .uninitialized → s.csAsserted = false → s.env.gpioReady = true →
    [cs, dr, rst, dout, din, sclk].Nodup → budget ≠ 0 →
    Answers s as more → as.length = 10 → (∀ a ∈ as, AnsweredOk budget a) →
    ∃ t, s.after 11 = .next t ∧
      t.hstate = .ready ∧ t.status = .ok ∧ t.errInfo = 0x0000 ∧ t.busy = false ∧
      t.rspValid = true ∧ t.csAsserted = false ∧ t.csFault = s.csFault ∧
      t.handle = ⟨cs, dr, rst, dout, din, sclk, 0, budget⟩ ∧
      t.env.trace = s.env.trace ++
        [setm cs true, setl cs .high, setm sclk true, setl sclk .high, setm dout true,
          setl dout .low, setm rst true, setl rst .high, setm din false, setm dr false] ∧
      t.env.answers = more ∧ t.env.cmdQueue = rest ∧ t.rdata = s.rdata ∧
      t.rdataValid = s.rdataValid ∧ t.result = s.result ∧ t.scale = s.scale

/-- R205 (the moment CS_ASSERTED falls is the model's reading of R23, log 13): TEARDOWN's checks; with chip-select not held it completes OK at once with HSTATE = CLOSED and
no primitive; with chip-select held it issues the release, and completes OK with HSTATE = CLOSED
whatever the release's outcome, a failure setting CS_FAULT. -/
def Obligations.TeardownRule : Prop :=
  (∀ (cmd : CmdWord) (opnd : OpndWord), decode cmd opnd = .command .teardown ↔ cmd = 0x00000002) ∧
  (∀ s : State, s.sq.primPending = false →
    (s.hstate = .closed → exec .teardown s = .next (s.ended .closedHandle 0x0000)) ∧
    (s.hstate = .uninitialized → exec .teardown s = .next (s.ended .notReady 0x0000)) ∧
    (s.hstate = .ready → s.csAsserted = false →
      exec .teardown s = .next ({ s with hstate := .closed }.ended .ok 0x0000)) ∧
    (s.hstate = .ready → s.csAsserted = true →
      ∃ t, exec .teardown s = .next t ∧ t.hstate = .ready ∧ t.csAsserted = false ∧
        t.sq.primPending = true ∧ t.sq.preq = setl s.handle.pinCs .high ∧ t.sq.phase = .release ∧
        t.env = { s.env with trace := s.env.trace ++ [setl s.handle.pinCs .high] } ∧
        t = { s with csAsserted := false, sq := t.sq, env := t.env })) ∧
  (∀ s : State, s.sq.primPending = true →
    ∃ t, exec .teardown s = .next t ∧ t.hstate = .closed ∧ t.status = .ok ∧ t.errInfo = 0x0000 ∧
      t.csFault = (s.csFault || s.outcome.failed) ∧ t.csAsserted = s.csAsserted ∧
      t.busy = false ∧ t.rspValid = true ∧ t.env.trace = s.env.trace ∧
      t = { s with hstate := t.hstate, csFault := t.csFault, status := t.status,
                   errInfo := t.errInfo, busy := t.busy, rspValid := t.rspValid, sq := t.sq,
                   env := t.env })

/-! ## ASSERT_CS and DEASSERT_CS -/

/-- R130 (the moment CS_ASSERTED falls is the model's reading of R23, log 13): ASSERT_CS's checks, its
assert, its success and its failure with the release. -/
def Obligations.AssertCsRule : Prop :=
  (∀ (cmd : CmdWord) (opnd : OpndWord), decode cmd opnd = .command .assertCs ↔ cmd = 0x00000003) ∧
  (∀ s : State, s.sq.primPending = false →
    (s.hstate = .closed → exec .assertCs s = .next (s.ended .closedHandle 0x0000)) ∧
    (s.hstate = .uninitialized → exec .assertCs s = .next (s.ended .notReady 0x0000)) ∧
    (s.hstate = .ready → s.csAsserted = true →
      exec .assertCs s = .next (s.ended .precondition 0x0020)) ∧
    (s.hstate = .ready → s.csAsserted = false →
      ∃ t, exec .assertCs s = .next t ∧ t.hstate = .ready ∧ t.csAsserted = false ∧
        t.sq.primPending = true ∧ t.sq.preq = setl s.handle.pinCs .low ∧ t.sq.pidx = 0 ∧
        t.sq.phase = .body ∧
        t.env = { s.env with trace := s.env.trace ++ [setl s.handle.pinCs .low] } ∧
        t = { s with sq := t.sq, env := t.env })) ∧
  (∀ (s : State) (l : Level), s.sq.primPending = true → s.sq.phase = .body → s.outcome = .ok l →
    ∃ t, exec .assertCs s = .next t ∧ t.csAsserted = true ∧ t.hstate = s.hstate ∧ t.status = .ok ∧
      t.errInfo = 0x0000 ∧ t.busy = false ∧ t.rspValid = true ∧ t.env.trace = s.env.trace ∧
      t = { s with csAsserted := t.csAsserted, status := t.status, errInfo := t.errInfo,
                   busy := t.busy, rspValid := t.rspValid, sq := t.sq, env := t.env }) ∧
  (∀ s : State, s.sq.primPending = true → s.sq.phase = .body → s.outcome.failed = true →
    ∃ t, exec .assertCs s = .next t ∧ t.csAsserted = false ∧ t.busy = s.busy ∧
      t.sq.primPending = true ∧ t.sq.preq = setl s.handle.pinCs .high ∧
      t.sq.phase = .cleanup (if s.outcome = .timeout then .primTimeout else .primLineFail) 0 ∧
      t.env.trace = s.env.trace ++ [setl s.handle.pinCs .high] ∧
      t = { s with csAsserted := false, sq := t.sq, env := t.env }) ∧
  (∀ (s : State) (c : Cause) (k : BitVec 8), s.sq.primPending = true → s.sq.phase = .cleanup c k →
    ∃ t, exec .assertCs s = .next t ∧ t.csAsserted = s.csAsserted ∧ t.hstate = s.hstate ∧
      t.status = .busError ∧ t.errInfo = k ++ c.code ∧ t.csFault = (s.csFault || s.outcome.failed) ∧
      t.busy = false ∧ t.rspValid = true ∧ t.env.trace = s.env.trace ∧
      t = { s with csFault := t.csFault, status := t.status, errInfo := t.errInfo, busy := t.busy,
                   rspValid := t.rspValid, sq := t.sq, env := t.env })

/-- R135 (the moment CS_ASSERTED falls is the model's reading of R23, log 13): DEASSERT_CS always completes OK: with no primitive unless READY; in READY it issues the
release whatever CS_ASSERTED is, and a failing release only sets CS_FAULT. -/
def Obligations.DeassertCsRule : Prop :=
  (∀ (cmd : CmdWord) (opnd : OpndWord), decode cmd opnd = .command .deassertCs ↔ cmd = 0x00000004) ∧
  (∀ s : State, s.sq.primPending = false →
    (s.hstate ≠ .ready → exec .deassertCs s = .next (s.ended .ok 0x0000)) ∧
    (s.hstate = .ready →
      ∃ t, exec .deassertCs s = .next t ∧ t.hstate = .ready ∧ t.csAsserted = false ∧
        t.sq.primPending = true ∧ t.sq.preq = setl s.handle.pinCs .high ∧ t.sq.pidx = 0 ∧
        t.env = { s.env with trace := s.env.trace ++ [setl s.handle.pinCs .high] } ∧
        t = { s with csAsserted := false, sq := t.sq, env := t.env })) ∧
  (∀ s : State, s.sq.primPending = true →
    ∃ t, exec .deassertCs s = .next t ∧ t.hstate = s.hstate ∧ t.csAsserted = s.csAsserted ∧
      t.csFault = (s.csFault || s.outcome.failed) ∧ t.status = .ok ∧ t.errInfo = 0x0000 ∧
      t.busy = false ∧ t.rspValid = true ∧ t.env.trace = s.env.trace ∧
      t = { s with csFault := t.csFault, status := t.status, errInfo := t.errInfo, busy := t.busy,
                   rspValid := t.rspValid, sq := t.sq, env := t.env })

/-! ## READ_REG and WRITE_REG -/

/-- R131: the request word: RW in bit 15, a[6:0] in bits 14 to 8, bits 7 to 0 zero; and for an address
below 0x80 no address bit is lost. -/
def Obligations.RequestWordLayout : Prop :=
  ∀ a : RegAddr,
    (reqWord .read a).getLsbD 15 = false ∧ (reqWord .write a).getLsbD 15 = true ∧
    (∀ d : Direction, (reqWord d a).extractLsb' 8 7 = a.extractLsb' 0 7 ∧
      (reqWord d a).extractLsb' 0 8 = 0) ∧
    (a.toNat < 0x80 → ∀ d : Direction, ((reqWord d a).extractLsb' 8 7).toNat = a.toNat) ∧
    reqWord .read 0x06 = 0x0600 ∧ reqWord .write 0x64 = 0xE400

/-- R136 (with R132, R133): the 98 primitives of a READ_REG and of a WRITE_REG, index by index. -/
def Obligations.TransactionIndexMap : Prop :=
  ∀ (h : HandleConfig) (a : RegAddr) (v : Word16),
    (readSequence h a).length = 98 ∧ (writeSequence h a v).length = 98 ∧
    (readSequence h a)[0]? = some (setl h.pinCs .low) ∧
    (writeSequence h a v)[0]? = some (setl h.pinCs .low) ∧
    (readSequence h a)[97]? = some (setl h.pinCs .high) ∧
    (writeSequence h a v)[97]? = some (setl h.pinCs .high) ∧
    (∀ i : Nat, i ≤ 15 →
      (readSequence h a)[1 + 3 * (15 - i)]? = some (setl h.pinSclk .low) ∧
      (readSequence h a)[2 + 3 * (15 - i)]? = some (setl h.pinDout ((reqWord .read a).getLsbD i)) ∧
      (readSequence h a)[3 + 3 * (15 - i)]? = some (setl h.pinSclk .high) ∧
      (readSequence h a)[49 + 3 * (15 - i)]? = some (setl h.pinSclk .low) ∧
      (readSequence h a)[50 + 3 * (15 - i)]? = some (setl h.pinSclk .high) ∧
      (readSequence h a)[51 + 3 * (15 - i)]? = some (getl h.pinDin) ∧
      (writeSequence h a v)[1 + 3 * (15 - i)]? = some (setl h.pinSclk .low) ∧
      (writeSequence h a v)[2 + 3 * (15 - i)]? = some (setl h.pinDout ((reqWord .write a).getLsbD i)) ∧
      (writeSequence h a v)[3 + 3 * (15 - i)]? = some (setl h.pinSclk .high) ∧
      (writeSequence h a v)[49 + 3 * (15 - i)]? = some (setl h.pinSclk .low) ∧
      (writeSequence h a v)[50 + 3 * (15 - i)]? = some (setl h.pinDout (v.getLsbD i)) ∧
      (writeSequence h a v)[51 + 3 * (15 - i)]? = some (setl h.pinSclk .high))

/-- R140, R24: READ_REG's checks in order, each failure clearing RDATA and RDATA_VALID, changing nothing
else and issuing no primitive; and its start, HSTATE = TRANSACTING with primitive 0 in flight and
RDATA as it was. -/
def Obligations.ReadRegChecksAndStart : Prop :=
  ∀ (s : State) (a : RegAddr), s.sq.primPending = false →
    let failed (st : Status) (e : BitVec 16) : Host.Outcome State Fault Refusal :=
      .next ({ s with rdata := 0x0000, rdataValid := false }.ended st e)
    (s.hstate = .closed → exec (.readReg a) s = failed .closedHandle 0x0000) ∧
    (s.hstate = .uninitialized → exec (.readReg a) s = failed .notReady 0x0000) ∧
    (s.hstate = .ready → a ∉ s.cfg.validAddr → exec (.readReg a) s = failed .invalidAddress 0x0000) ∧
    (s.hstate = .ready → a ∈ s.cfg.validAddr → s.csAsserted = true →
      exec (.readReg a) s = failed .precondition 0x0020) ∧
    (s.hstate = .ready → a ∈ s.cfg.validAddr → s.csAsserted = false →
      ∃ t, exec (.readReg a) s = .next t ∧ t.hstate = .transacting ∧ t.busy = s.busy ∧
        t.sq.primPending = true ∧ TransactionAt (readSequence s.handle a) t ∧ t.sq.pidx = 0 ∧
        t.sq.phase = .body ∧ t.env.trace = s.env.trace ++ [setl s.handle.pinCs .low] ∧
        t.rdata = s.rdata ∧ t.rdataValid = s.rdataValid ∧ t.status = s.status ∧
        t.handle = s.handle)

/-- R150: WRITE_REG's checks in order, each failure changing nothing but STATUS and ERR_INFO and issuing
no primitive; and its start, HSTATE = TRANSACTING with primitive 0 in flight. -/
def Obligations.WriteRegChecksAndStart : Prop :=
  ∀ (s : State) (a : RegAddr) (v : Word16), s.sq.primPending = false →
    (s.hstate = .closed → exec (.writeReg a v) s = .next (s.ended .closedHandle 0x0000)) ∧
    (s.hstate = .uninitialized → exec (.writeReg a v) s = .next (s.ended .notReady 0x0000)) ∧
    (s.hstate = .ready → a ∉ s.cfg.validAddr →
      exec (.writeReg a v) s = .next (s.ended .invalidAddress 0x0000)) ∧
    (s.hstate = .ready → a ∈ s.cfg.validAddr → s.csAsserted = true →
      exec (.writeReg a v) s = .next (s.ended .precondition 0x0020)) ∧
    (s.hstate = .ready → a ∈ s.cfg.validAddr → s.csAsserted = false →
      ∃ t, exec (.writeReg a v) s = .next t ∧ t.hstate = .transacting ∧ t.busy = s.busy ∧
        t.sq.primPending = true ∧ TransactionAt (writeSequence s.handle a v) t ∧ t.sq.pidx = 0 ∧
        t.sq.phase = .body ∧ t.env.trace = s.env.trace ++ [setl s.handle.pinCs .low] ∧
        t.status = s.status ∧ t.handle = s.handle)

/-- R23, R133, R136: an OK primitive k of a transaction lets primitive k + 1 of its sequence be issued;
primitive 0 sets CS_ASSERTED, issuing primitive 97 clears it (log 13), a GETL writes its level into
bit 15 - (k - 51) / 3 of SHIFT, and nothing else of the block changes. -/
def Obligations.TransactionPrimitiveOk : Prop :=
  ∀ (s : State) (i : Instr) (l : Level), IsTransaction i → s.sq.primPending = true →
    s.sq.phase = .body → TransactionAt (transactionSequence s.handle i) s → s.outcome = .ok l →
    ∃ t, exec i s = .next t ∧ t.sq.primPending = true ∧
      t.sq.pidx.toNat = s.sq.pidx.toNat + 1 ∧
      (transactionSequence s.handle i)[t.sq.pidx.toNat]? = some t.sq.preq ∧
      t.env.trace = s.env.trace ++ [t.sq.preq] ∧
      TransactionAt (transactionSequence s.handle i) t ∧
      t.csAsserted = decide (t.sq.pidx.toNat < 97) ∧
      (∀ j : Nat, j < 16 → t.sq.shift.getLsbD j =
        (if s.sq.preq.op = .readPinLevel ∧ j = 15 - (s.sq.pidx.toNat - 51) / 3 then l
          else s.sq.shift.getLsbD j)) ∧
      t = { s with csAsserted := t.csAsserted, sq := t.sq, env := t.env } ∧
      t.sq.cmdL = s.sq.cmdL ∧ t.sq.opndL = s.sq.opndL

/-- R137: a failed primitive k of a transaction makes the release the next and last primitive, with the
cause and k kept for the completion; CS_ASSERTED is 0 from then on. -/
def Obligations.TransactionPrimitiveFails : Prop :=
  ∀ (s : State) (i : Instr), IsTransaction i → s.sq.primPending = true → s.sq.phase = .body →
    s.outcome.failed = true →
    ∃ t, exec i s = .next t ∧ t.sq.primPending = true ∧ t.sq.preq = setl s.handle.pinCs .high ∧
      t.sq.seq = [] ∧
      t.sq.phase = .cleanup (if s.outcome = .timeout then .primTimeout else .primLineFail)
        s.sq.pidx ∧
      t.env.trace = s.env.trace ++ [setl s.handle.pinCs .high] ∧
      t = { s with csAsserted := false, sq := t.sq, env := t.env }

/-- R24, R134, R140: READ_REG completes when its release has an outcome, whichever it is: OK after the
release of a whole transaction, with RDATA = SHIFT and RDATA_VALID = 1; BUS_ERROR with the kept cause
and index after a failure, with RDATA = 0 and RDATA_VALID = 0. -/
def Obligations.ReadRegCompletes : Prop :=
  ∀ (s : State) (a : RegAddr), s.sq.primPending = true →
    (s.sq.phase = .release → ∃ t, exec (.readReg a) s = .next t ∧ t.rdata = s.sq.shift ∧
      t.rdataValid = true ∧ t.hstate = .ready ∧ t.csFault = (s.csFault || s.outcome.failed) ∧
      t.status = .ok ∧ t.errInfo = 0x0000 ∧ t.busy = false ∧ t.rspValid = true ∧
      t.sq.seq = [] ∧ t.sq.primPending = false ∧
      t = { s with rdata := t.rdata, rdataValid := t.rdataValid, hstate := t.hstate,
                   csFault := t.csFault, status := t.status, errInfo := t.errInfo, busy := t.busy,
                   rspValid := t.rspValid, sq := t.sq, env := t.env } ∧
      t.env.trace = s.env.trace) ∧
    (∀ (c : Cause) (k : BitVec 8), s.sq.phase = .cleanup c k →
      ∃ t, exec (.readReg a) s = .next t ∧ t.rdata = 0x0000 ∧ t.rdataValid = false ∧
      t.hstate = .ready ∧ t.csFault = (s.csFault || s.outcome.failed) ∧ t.status = .busError ∧
      t.errInfo = k ++ c.code ∧ t.busy = false ∧ t.rspValid = true ∧
      t.sq.seq = [] ∧ t.sq.primPending = false ∧
      t = { s with rdata := t.rdata, rdataValid := t.rdataValid, hstate := t.hstate,
                   csFault := t.csFault, status := t.status, errInfo := t.errInfo, busy := t.busy,
                   rspValid := t.rspValid, sq := t.sq, env := t.env } ∧
      t.env.trace = s.env.trace)

/-- R134, R150: WRITE_REG completes when its release has an outcome, whichever it is: OK after a whole
transaction, BUS_ERROR with the kept cause and index after a failure; RDATA, RDATA_VALID and RESULT
are unchanged. -/
def Obligations.WriteRegCompletes : Prop :=
  ∀ (s : State) (a : RegAddr) (v : Word16), s.sq.primPending = true →
    (s.sq.phase = .release → ∃ t, exec (.writeReg a v) s = .next t ∧ t.hstate = .ready ∧
      t.csFault = (s.csFault || s.outcome.failed) ∧ t.status = .ok ∧ t.errInfo = 0x0000 ∧
      t.busy = false ∧ t.rspValid = true ∧ t.sq.seq = [] ∧ t.sq.primPending = false ∧
      t = { s with hstate := t.hstate, csFault := t.csFault, status := t.status,
                   errInfo := t.errInfo, busy := t.busy, rspValid := t.rspValid, sq := t.sq,
                   env := t.env } ∧
      t.env.trace = s.env.trace) ∧
    (∀ (c : Cause) (k : BitVec 8), s.sq.phase = .cleanup c k →
      ∃ t, exec (.writeReg a v) s = .next t ∧ t.hstate = .ready ∧
      t.csFault = (s.csFault || s.outcome.failed) ∧ t.status = .busError ∧
      t.errInfo = k ++ c.code ∧ t.busy = false ∧ t.rspValid = true ∧ t.sq.seq = [] ∧
      t.sq.primPending = false ∧
      t = { s with hstate := t.hstate, csFault := t.csFault, status := t.status,
                   errInfo := t.errInfo, busy := t.busy, rspValid := t.rspValid, sq := t.sq,
                   env := t.env } ∧
      t.env.trace = s.env.trace)

/-- R140, a whole READ_REG: when primitives 0 to 96 are answered OK, 99 steps after it is offered RDATA
holds the 16 levels of the GETLs, most significant bit first, RDATA_VALID = 1, STATUS = OK, exactly
the 98 primitives were issued, chip-select is released and HSTATE is READY again; a failed release
only sets CS_FAULT. What SHIFT held before does not matter. That a step is one primitive, hence the
count of steps, is the model's choice (log 1). -/
def Obligations.ReadRegReturnsWord : Prop :=
  ∀ (s : State) (a : RegAddr) (rest : List (CmdWord × OpndWord)) (as more : List Answer)
    (last : Answer),
    TransactionOffered s (.readReg a) rest → Answers s (as ++ [last]) more → as.length = 97 →
    (∀ x ∈ as, AnsweredOk s.handle.pollBudget x) →
    ∃ t, s.after 99 = .next t ∧
      (∀ i : Nat, i ≤ 15 → (as[51 + 3 * (15 - i)]?).map Answer.level = some (t.rdata.getLsbD i)) ∧
      t.rdataValid = true ∧ t.status = .ok ∧ t.errInfo = 0x0000 ∧ t.hstate = .ready ∧
      t.csAsserted = false ∧ t.csFault = (s.csFault || (last.outcome s.handle.pollBudget).failed) ∧
      t.busy = false ∧ t.rspValid = true ∧
      t.env.trace = s.env.trace ++ readSequence s.handle a ∧
      t.env.answers = more ∧ t.env.cmdQueue = rest ∧
      t.result = s.result ∧ t.scale = s.scale ∧ t.handle = s.handle ∧ t.cfg = s.cfg

/-- R150, a whole WRITE_REG: when primitives 0 to 96 are answered OK, 99 steps after it is offered
STATUS = OK, exactly the 98 primitives were issued, chip-select is released and HSTATE is READY; a
failed release only sets CS_FAULT; RDATA, RDATA_VALID and RESULT are unchanged. That a step is one
primitive, hence the count of steps, is the model's choice (log 1). -/
def Obligations.WriteRegSendsWord : Prop :=
  ∀ (s : State) (a : RegAddr) (v : Word16) (rest : List (CmdWord × OpndWord))
    (as more : List Answer) (last : Answer),
    TransactionOffered s (.writeReg a v) rest → Answers s (as ++ [last]) more → as.length = 97 →
    (∀ x ∈ as, AnsweredOk s.handle.pollBudget x) →
    ∃ t, s.after 99 = .next t ∧ t.status = .ok ∧ t.errInfo = 0x0000 ∧ t.hstate = .ready ∧
      t.csAsserted = false ∧ t.csFault = (s.csFault || (last.outcome s.handle.pollBudget).failed) ∧
      t.busy = false ∧ t.rspValid = true ∧
      t.env.trace = s.env.trace ++ writeSequence s.handle a v ∧
      t.env.answers = more ∧ t.env.cmdQueue = rest ∧
      t.rdata = s.rdata ∧ t.rdataValid = s.rdataValid ∧
      t.result = s.result ∧ t.scale = s.scale ∧ t.handle = s.handle ∧ t.cfg = s.cfg

/-- R137: if primitive k in 0 to 96 of a transaction fails, the primitives issued are 0 to k of its
sequence and one release, HSTATE is READY, STATUS is BUS_ERROR with the cause and PRIM_IDX = k; a
failure of the release is no second error. That a step is one primitive, hence the count of steps, is
the model's choice (log 1). -/
def Obligations.TransactionFailureReleases : Prop :=
  ∀ (s : State) (i : Instr) (rest : List (CmdWord × OpndWord)) (as more : List Answer)
    (bad last : Answer),
    TransactionOffered s i rest → Answers s (as ++ [bad, last]) more → as.length ≤ 96 →
    (∀ x ∈ as, AnsweredOk s.handle.pollBudget x) →
    (bad.outcome s.handle.pollBudget).failed = true →
    ∃ t, s.after (as.length + 3) = .next t ∧ t.status = .busError ∧
      t.errInfo = BitVec.ofNat 8 as.length ++
        (if bad.outcome s.handle.pollBudget = .timeout then (0x01 : BitVec 8) else 0x02) ∧
      t.hstate = .ready ∧ t.csAsserted = false ∧ t.busy = false ∧ t.rspValid = true ∧
      t.csFault = (s.csFault || (last.outcome s.handle.pollBudget).failed) ∧
      t.env.trace = s.env.trace ++ (transactionSequence s.handle i).take (as.length + 1) ++
        [setl s.handle.pinCs .high] ∧
      t.env.answers = more ∧ t.result = s.result

/-- R90: with the mock, an OK READ_REG of `a` returns DEV[a], and one with a failure named at an index k
of 0 to 96 ends with BUS_ERROR at k and no word; a WRITE_REG whose 97 primitives before the release
all answered OK writes DEV[a] and no other word; one that failed before, was refused or was cut by
reset (fewer than 97 answers) leaves DEV unchanged; writing DEV[a] back leaves DEV unchanged; no other
command writes DEV. That a step is one primitive is the model's choice (log 1). -/
def Obligations.MockRoundTrip : Prop :=
  (∀ (s : State) (a : RegAddr) (d : Dev) (rest : List (CmdWord × OpndWord)) (more : List Answer),
    TransactionOffered s (.readReg a) rest → Answers s (mockAnswers d (.readReg a)) more →
    s.handle.pollBudget ≠ 0 →
    ∃ t, s.after 99 = .next t ∧ t.rdata = devGet d a ∧ t.rdataValid = true ∧ t.status = .ok) ∧
  (∀ (s : State) (a : RegAddr) (d : Dev) (rest : List (CmdWord × OpndWord)) (more : List Answer)
    (k : Nat) (bad release : Answer),
    TransactionOffered s (.readReg a) rest → k ≤ 96 →
    Answers s (mockAnswersFailing d (.readReg a) k bad release) more → s.handle.pollBudget ≠ 0 →
    (bad.outcome s.handle.pollBudget).failed = true →
    ∃ t, s.after (k + 3) = .next t ∧ t.rdata = 0 ∧ t.rdataValid = false ∧ t.status = .busError ∧
      t.errInfo.extractLsb' 8 8 = BitVec.ofNat 8 k ∧ t.env.answers = more) ∧
  (∀ (d : Dev) (a b : RegAddr) (v : Word16) (budget : BitVec 16) (as : List Answer),
    97 ≤ as.length → (∀ x ∈ as.take 97, (x.outcome budget).failed = false) →
    devGet (mockAfter d budget as (.writeReg a v)) b = if b = a then v else devGet d b) ∧
  (∀ (d : Dev) (a : RegAddr) (v : Word16) (budget : BitVec 16) (as : List Answer),
    (as.length < 97 ∨ ∃ x ∈ as.take 97, (x.outcome budget).failed = true) →
    mockAfter d budget as (.writeReg a v) = d) ∧
  (∀ (d : Dev) (a : RegAddr) (w : Word16) (budget : BitVec 16) (as : List Answer),
    cellsWf d → cellsGet a.toNat d = some w → mockAfter d budget as (.writeReg a w) = d) ∧
  (∀ (d : Dev) (budget : BitVec 16) (as : List Answer) (i : Instr), (∀ a v, i ≠ .writeReg a v) →
    mockAfter d budget as i = d)

/-! ## The scaling datapath -/

/-- R173: the machine's conversion answers, for every scale file, raw pattern and category code, what the
rule's clauses, written out as the relation `Converts`, give, and nothing else; so there is exactly
one answer for every input. -/
def Obligations.ConversionIsAFunction : Prop :=
  ∀ (f : ScaleFile) (r : Word16) (cat : BitVec 3) (ans : ScaleAnswer),
    Converts f r cat ans ↔ scaleValue f r cat = ans

/-- R175: SCALE writes RESULT as the conversion of its immediate says, or 0 with the failure's status;
nothing else changes, in any handle state. -/
def Obligations.ScaleRule : Prop :=
  (∀ (cmd : CmdWord) (opnd : OpndWord) (cat : BitVec 3) (r : Word16),
    decode cmd opnd = .command (.scale cat r) ↔
      cmd &&& 0x0000FF8F = 0x00000007 ∧ cmd.extractLsb' 4 3 = cat ∧ cmd.extractLsb' 16 16 = r) ∧
  (∀ (s : State) (cat : BitVec 3) (r : Word16) (ans : ScaleAnswer), Converts s.scale r cat ans →
    exec (.scale cat r) s = .next (s.scaled ans))

/-- R176: SCALE.RD checks the category, then RDATA_VALID, then converts RDATA, which it leaves as it is;
nothing but RESULT, STATUS and ERR_INFO changes, in any handle state. -/
def Obligations.ScaleRdRule : Prop :=
  (∀ (cmd : CmdWord) (opnd : OpndWord) (cat : BitVec 3),
    decode cmd opnd = .command (.scaleRd cat) ↔
      cmd &&& 0xFFFFFF8F = 0x00000087 ∧ cmd.extractLsb' 4 3 = cat) ∧
  (∀ (s : State) (cat : BitVec 3),
    (5 ≤ cat.toNat → exec (.scaleRd cat) s =
      .next ({ s with result := 0 }.ended .invalidCategory 0x0000)) ∧
    (cat.toNat < 5 → s.rdataValid = false → exec (.scaleRd cat) s =
      .next ({ s with result := 0 }.ended .precondition 0x0022)) ∧
    (cat.toNat < 5 → s.rdataValid = true → ∀ ans, Converts s.scale s.rdata cat ans →
      exec (.scaleRd cat) s = .next (s.scaled ans)))

/-- R180: SET_LSB stores the pattern as is in its category's constant and sets its valid bit, the others
kept; an unsupported category stores nothing. -/
def Obligations.SetLsbRule : Prop :=
  (∀ (cmd : CmdWord) (opnd : OpndWord) (cat : BitVec 3) (v : F64),
    decode cmd opnd = .command (.setLsb cat v) ↔
      cmd &&& 0xFFFFFF8F = 0x00000008 ∧ cmd.extractLsb' 4 3 = cat ∧ opnd = v) ∧
  (∀ (s : State) (cat : BitVec 3) (v : F64), 5 ≤ cat.toNat →
    exec (.setLsb cat v) s = .next (s.ended .invalidCategory 0x0000)) ∧
  (∀ (s : State) (c : Category) (v : F64), ∃ f : ScaleFile,
    exec (.setLsb c.code v) s = .next ({ s with scale := f }.ended .ok 0x0000) ∧
    f.lsb c = v ∧ (∀ d : Category, d ≠ c → f.lsb d = s.scale.lsb d) ∧
    (∀ n : Nat, n < 5 → f.lsbValid.getLsbD n =
      (s.scale.lsbValid.getLsbD n || decide (n = c.code.toNat))) ∧
    f.tempOffset = s.scale.tempOffset ∧ f.ofsValid = s.scale.ofsValid)

/-- R181: SET_TEMP_OFFSET stores the pattern as is and sets OFS_VALID; it always completes OK. -/
def Obligations.SetTempOffsetRule : Prop :=
  (∀ (cmd : CmdWord) (opnd : OpndWord) (v : F64),
    decode cmd opnd = .command (.setTempOffset v) ↔ cmd = 0x00000009 ∧ opnd = v) ∧
  (∀ (s : State) (v : F64), exec (.setTempOffset v) s =
    .next ({ s with scale := { s.scale with tempOffset := v, ofsValid := true } }.ended .ok 0x0000))

/-- R172: the value of a raw pattern is its two's-complement integer, exactly, and zero is +0.0. -/
def Obligations.RawSampleIsExact : Prop :=
  (∀ r : Word16, isFinite (i16ToF64 (sint16 r)) = true ∧
    fVal (i16ToF64 (sint16 r)) = r.toInt * 2 ^ 1074) ∧
  i16ToF64 (sint16 0x0000) = 0x0000000000000000 ∧ i16ToF64 (sint16 0xFFFF) = 0xBFF0000000000000 ∧
  i16ToF64 (sint16 0x8000) = 0xC0E0000000000000 ∧ i16ToF64 (sint16 0x7FFF) = 0x40DFFFC000000000

/-- R171: the product of finite patterns has the product of the signs; it is finite exactly when the
exact product is below the overflow threshold, and is then the nearest binary64, of two nearest the
one whose last fraction bit is 0; otherwise it is the signed infinity. Magnitudes are in units of
2^-1074. -/
def Obligations.MultiplyRoundsToNearestEven : Prop :=
  ∀ a b : F64, isFinite a = true → isFinite b = true →
    fSign (fmul64 a b) = (fSign a ^^ fSign b) ∧
    (fMag a * fMag b < (2 ^ 54 - 1) * 2 ^ 2044 * 2 ^ 1074 →
      isFinite (fmul64 a b) = true ∧
      ∀ c : F64, isFinite c = true →
        magDist (fMag (fmul64 a b) * 2 ^ 1074) (fMag a * fMag b) ≤
          magDist (fMag c * 2 ^ 1074) (fMag a * fMag b) ∧
        (magDist (fMag c * 2 ^ 1074) (fMag a * fMag b) =
            magDist (fMag (fmul64 a b) * 2 ^ 1074) (fMag a * fMag b) →
          fMag c = fMag (fmul64 a b) ∨ (fmul64 a b).getLsbD 0 = false)) ∧
    ((2 ^ 54 - 1) * 2 ^ 2044 * 2 ^ 1074 ≤ fMag a * fMag b → isInf (fmul64 a b) = true)

/-- R171: the sum of finite patterns, likewise; an exact zero sum is +0.0 unless both operands have sign
bit 1. -/
def Obligations.AddRoundsToNearestEven : Prop :=
  ∀ a b : F64, isFinite a = true → isFinite b = true →
    (fVal a + fVal b = 0 → fadd64 a b = (if fSign a && fSign b then 0x8000000000000000 else 0)) ∧
    (fVal a + fVal b ≠ 0 →
      fSign (fadd64 a b) = decide (fVal a + fVal b < 0) ∧
      ((fVal a + fVal b).natAbs < (2 ^ 54 - 1) * 2 ^ 2044 →
        isFinite (fadd64 a b) = true ∧
        ∀ c : F64, isFinite c = true →
          magDist (fMag (fadd64 a b)) (fVal a + fVal b).natAbs ≤
            magDist (fMag c) (fVal a + fVal b).natAbs ∧
          (magDist (fMag c) (fVal a + fVal b).natAbs =
              magDist (fMag (fadd64 a b)) (fVal a + fVal b).natAbs →
            fMag c = fMag (fadd64 a b) ∨ (fadd64 a b).getLsbD 0 = false)) ∧
      ((2 ^ 54 - 1) * 2 ^ 2044 ≤ (fVal a + fVal b).natAbs → isInf (fadd64 a b) = true))

/-- R171: a NaN operand, zero times infinity and the sum of opposite infinities give the canonical NaN
whatever the payloads and signs; infinities otherwise propagate with the IEEE sign; and no product
or sum is any other NaN. -/
def Obligations.SpecialValuesOfArithmetic : Prop :=
  ∀ a b : F64,
    (isNaN a = true ∨ isNaN b = true →
      fmul64 a b = 0x7FF8000000000000 ∧ fadd64 a b = 0x7FF8000000000000) ∧
    (isInf a = true → isZero b = true →
      fmul64 a b = 0x7FF8000000000000 ∧ fmul64 b a = 0x7FF8000000000000) ∧
    (isInf a = true → isNaN b = false → isZero b = false →
      isInf (fmul64 a b) = true ∧ fSign (fmul64 a b) = (fSign a ^^ fSign b) ∧
      isInf (fmul64 b a) = true ∧ fSign (fmul64 b a) = (fSign a ^^ fSign b)) ∧
    (isInf a = true → isInf b = true → fSign a ≠ fSign b → fadd64 a b = 0x7FF8000000000000) ∧
    (isInf a = true → isNaN b = false → (isInf b = true → fSign a = fSign b) →
      fadd64 a b = a ∧ fadd64 b a = a) ∧
    (isNaN (fmul64 a b) = true → fmul64 a b = 0x7FF8000000000000) ∧
    (isNaN (fadd64 a b) = true → fadd64 a b = 0x7FF8000000000000)

/-- R185: (a) equal raw pattern, category and configuration give the same RESULT and status whatever
else the states hold, two SCALE, two SCALE.RD, or one of each; (b) GYROSCOPE of 0xFFFF is exactly
-LSB[1] for a finite positive LSB[1]; (c) raw zero gives exactly +0.0 in the four categories without an
offset and TEMP_OFFSET bit for bit in TEMPERATURE (the canonical NaN for a NaN offset); (d) no scale
command issues a primitive. -/
def Obligations.ScaleProperties : Prop :=
  (∀ (s s' t t' : State) (cat : BitVec 3) (r : Word16), s.scale = s'.scale →
    exec (.scale cat r) s = .next t → exec (.scale cat r) s' = .next t' →
    t.result = t'.result ∧ t.status = t'.status) ∧
  (∀ (s s' t t' : State) (cat : BitVec 3), s.scale = s'.scale → s.rdata = s'.rdata →
    s.rdataValid = true → s'.rdataValid = true →
    exec (.scaleRd cat) s = .next t → exec (.scaleRd cat) s' = .next t' →
    t.result = t'.result ∧ t.status = t'.status) ∧
  (∀ (s s' t t' : State) (cat : BitVec 3) (r : Word16), s.scale = s'.scale → s'.rdata = r →
    s'.rdataValid = true →
    exec (.scale cat r) s = .next t → exec (.scaleRd cat) s' = .next t' →
    t.result = t'.result ∧ t.status = t'.status) ∧
  (∀ f : ScaleFile, f.lsbValid.getLsbD 1 = true → isFinite f.gyro = true → fSign f.gyro = false →
    fMag f.gyro ≠ 0 →
    scaleValue f 0xFFFF 1 = .value (f.gyro ||| 0x8000000000000000)) ∧
  (∀ (f : ScaleFile) (c : Category), c ≠ .temperature → f.isValid c = true →
    isFinite (f.lsb c) = true → fSign (f.lsb c) = false →
    scaleValue f 0x0000 c.code = .value 0x0000000000000000) ∧
  (∀ f : ScaleFile, f.isValid .temperature = true → f.ofsValid = true → isFinite f.temp = true →
    fSign f.temp = false → f.tempOffset ≠ 0x8000000000000000 → isNaN f.tempOffset = false →
    scaleValue f 0x0000 2 = .value f.tempOffset) ∧
  (∀ f : ScaleFile, f.isValid .temperature = true → f.ofsValid = true →
    isNaN f.tempOffset = true → scaleValue f 0x0000 2 = .value 0x7FF8000000000000) ∧
  (∀ (i : Instr) (s t : State), IsScaling i → exec i s = .next t → t.env = s.env)

/-! ## Frames -/

/-- R25, R30, R24, R175 to R181: what the four scaling commands leave unchanged: everything but STATUS,
ERR_INFO, BUSY, RSP_VALID, the idle sequencer's fields, RESULT (SCALE, SCALE.RD only) and the scale
configuration (SET_LSB, SET_TEMP_OFFSET only). -/
def Obligations.ScalingFrame : Prop :=
  ∀ (i : Instr) (s t : State), IsScaling i → exec i s = .next t →
    t = { s with result := t.result, scale := t.scale, status := t.status, errInfo := t.errInfo,
                 busy := false, rspValid := true,
                 sq := { s.sq with seq := [], primPending := false, phase := .body } } ∧
    (∀ cat v, i = .setLsb cat v → t.result = s.result) ∧
    (∀ v, i = .setTempOffset v → t.result = s.result) ∧
    (∀ cat r, i = .scale cat r → t.scale = s.scale) ∧
    (∀ cat, i = .scaleRd cat → t.scale = s.scale)

/-- R23, R24, R28, R130 to R150: what one step of ASSERT_CS, DEASSERT_CS, READ_REG and WRITE_REG leaves
unchanged: RESULT, the scale and handle configuration, the parameters, the latched command, the
inputs; RDATA and RDATA_VALID except by READ_REG; HSTATE except by a transaction. -/
def Obligations.BusCommandFrame : Prop :=
  ∀ (i : Instr) (s t : State), (IsTransaction i ∨ i = .assertCs ∨ i = .deassertCs) →
    exec i s = .next t →
    t = { s with hstate := t.hstate, csAsserted := t.csAsserted, csFault := t.csFault,
                 rdata := t.rdata, rdataValid := t.rdataValid, status := t.status,
                 errInfo := t.errInfo, busy := t.busy, rspValid := t.rspValid, sq := t.sq,
                 env := { s.env with answers := t.env.answers, draws := t.env.draws,
                                     pins := t.env.pins, trace := t.env.trace } } ∧
    t.sq.cmdL = s.sq.cmdL ∧ t.sq.opndL = s.sq.opndL ∧
    ((∀ a, i ≠ .readReg a) → t.rdata = s.rdata ∧ t.rdataValid = s.rdataValid) ∧
    (¬ IsTransaction i → t.hstate = s.hstate)

/-- R200, R205: what one step of INIT and TEARDOWN leaves unchanged: RDATA, RDATA_VALID, RESULT, the
scale configuration, the parameters, the latched command, SHIFT, the inputs; CS_ASSERTED too by INIT,
and CS_FAULT unless its `SETL(PIN_CS, HIGH)` has failed (R28, log 12); the handle configuration too by
TEARDOWN. -/
def Obligations.LifecycleFrame : Prop :=
  ∀ (i : Instr) (s t : State),
    (i = .teardown ∨ ∃ budget cs dr rst dout din sclk clksel,
      i = .init budget cs dr rst dout din sclk clksel) →
    exec i s = .next t →
    t = { s with hstate := t.hstate, csAsserted := t.csAsserted, csFault := t.csFault,
                 status := t.status, errInfo := t.errInfo, busy := t.busy, rspValid := t.rspValid,
                 handle := t.handle, sq := t.sq,
                 env := { s.env with answers := t.env.answers, draws := t.env.draws,
                                     pins := t.env.pins, trace := t.env.trace } } ∧
    t.sq.cmdL = s.sq.cmdL ∧ t.sq.opndL = s.sq.opndL ∧ t.sq.shift = s.sq.shift ∧
    (i ≠ .teardown → t.csAsserted = s.csAsserted ∧
      t.csFault = (s.csFault || (s.sq.primPending && s.outcome.failed &&
        decide (s.sq.preq = setl s.handle.pinCs .high)))) ∧
    (i = .teardown → t.handle = s.handle)

/-- R73, U4, U6: what one step of any command does to the pins: nothing unless a primitive was in
flight, and then only to the pin it names; a SETM or SETL that ended OK has been applied, one that
did not leaves its pin unknown, a GETL changes no pin. -/
def Obligations.PinsChangeOnlyByThePrimitive : Prop :=
  ∀ (i : Instr) (s t : State), ¬ IsScaling i → exec i s = .next t →
    (s.sq.primPending = false → t.env.pins = s.env.pins) ∧
    (s.sq.primPending = true →
      (∀ p : PinId, p ≠ s.sq.preq.pin →
        t.env.pins.level p = s.env.pins.level p ∧ t.env.pins.mode p = s.env.pins.mode p) ∧
      (s.sq.preq.op = .setPinLevel → t.env.pins.level s.sq.preq.pin =
        (if s.outcome.failed then none else some s.sq.preq.arg)) ∧
      (s.sq.preq.op = .setPinMode → t.env.pins.mode s.sq.preq.pin =
        (if s.outcome.failed then none else some s.sq.preq.arg)) ∧
      (s.sq.preq.op = .readPinLevel → t.env.pins = s.env.pins))

/-! ## Whole-machine rules -/

/-- From every state that meets the invariant, reachable or not, a step gives a state that meets it:
the sequencer stands on its command's sequence, CS_ASSERTED is held only in READY and TRANSACTING, a
bound handle has distinct pins, no partial read is visible (R22 to R24, R35). -/
def Obligations.StepKeepsInvariant : Prop :=
  ∀ s t : State, s.Inv → step s = .next t → t.Inv

/-- R23, R28, U4: the chip-select line: a step keeps it that the line is LOW while CS_ASSERTED = 1, and
HIGH between commands while CS_ASSERTED = 0 and CS_FAULT = 0. -/
def Obligations.StepKeepsChipSelectLine : Prop :=
  ∀ s t : State, s.Inv → s.LineInv → step s = .next t → t.LineInv

/-- R22: HSTATE changes only as the rule says and only by the command it names, and it does change then:
at a successful INIT's completion, at the first primitive of a READ_REG or WRITE_REG, at that
command's completion, successful or not, and at TEARDOWN's completion. -/
def Obligations.HandleStateTransitions : Prop :=
  (HState.code .uninitialized = 0 ∧ HState.code .ready = 1 ∧ HState.code .transacting = 2 ∧
    HState.code .closed = 3) ∧
  (∀ s t : State, s.Inv → step s = .next t →
    (s.takeInput.env.rstN = false → t.hstate = .uninitialized) ∧
    (s.takeInput.env.rstN = true →
      t.hstate = s.hstate ∨
      (∃ i, decode t.sq.cmdL t.sq.opndL = .command i ∧
        ((s.hstate = .uninitialized ∧ t.hstate = .ready ∧ t.busy = false ∧ t.status = .ok ∧
            ∃ budget cs dr rst dout din sclk clksel,
              i = .init budget cs dr rst dout din sclk clksel) ∨
          (s.hstate = .ready ∧ t.hstate = .transacting ∧ t.busy = true ∧ IsTransaction i ∧
            t.env.trace = s.env.trace ++ [setl s.handle.pinCs .low]) ∨
          (s.hstate = .transacting ∧ t.hstate = .ready ∧ t.busy = false ∧ IsTransaction i) ∨
          (s.hstate = .ready ∧ t.hstate = .closed ∧ t.busy = false ∧ i = .teardown))))) ∧
  (∀ s t : State, s.Inv → s.takeInput.env.rstN = true → step s = .next t →
    (∀ budget cs dr rst dout din sclk clksel, s.hstate = .uninitialized →
      decode t.sq.cmdL t.sq.opndL = .command (.init budget cs dr rst dout din sclk clksel) →
      t.rspValid = true → t.status = .ok → t.hstate = .ready) ∧
    (∀ i, s.hstate = .ready → decode t.sq.cmdL t.sq.opndL = .command i → IsTransaction i →
      t.env.trace ≠ s.env.trace → t.hstate = .transacting) ∧
    (s.hstate = .transacting → t.busy = false → t.hstate = .ready) ∧
    (s.hstate = .ready → decode t.sq.cmdL t.sq.opndL = .command .teardown → t.rspValid = true →
      t.hstate = .closed))

/-- R161: in CLOSED, READ_REG, WRITE_REG, ASSERT_CS, TEARDOWN and INIT complete with CLOSED_HANDLE,
DEASSERT_CS completes OK, the scaling commands run as in any other handle state; none issues a
primitive or touches a pin. -/
def Obligations.ClosedHandleTouchesNoPin : Prop :=
  ∀ (i : Instr) (s : State), s.hstate = .closed → s.sq.primPending = false →
    ∃ t, exec i s = .next t ∧ t.busy = false ∧ t.sq.primPending = false ∧ t.env = s.env ∧
      t.hstate = .closed ∧
      (i = .deassertCs → t.status = .ok) ∧
      (i ≠ .deassertCs → ¬ IsScaling i → t.status = .closedHandle ∧ t.errInfo = 0x0000) ∧
      (IsScaling i → ∀ h : HState, exec i (s.withHState h) = .next (t.withHState h))

/-- R36: no partial result is visible: a step after which a command is still running leaves STATUS,
ERR_INFO, RDATA, RDATA_VALID and RESULT as they were. -/
def Obligations.NoPartialResultVisible : Prop :=
  ∀ s t : State, step s = .next t → t.busy = true →
    t.status = s.status ∧ t.errInfo = s.errInfo ∧ t.rdata = s.rdata ∧
      t.rdataValid = s.rdataValid ∧ t.result = s.result ∧ t.rspValid = false

/-- R160 and D48, as far as the command rules give them: once the handle is bound, a step that issues a
primitive issues none on PIN_DR or PIN_RST, no SETM and no `initialize`; chip-select is driven LOW
only as primitive 0 of ASSERT_CS, READ_REG or WRITE_REG and only while CS_ASSERTED = 0; and in the
window ASSERT_CS has opened the only primitive is the release. -/
def Obligations.ChipSelectWindow : Prop :=
  ∀ (s t : State) (p : Request), s.Inv → s.takeInput.env.rstN = true →
    s.hstate ≠ .uninitialized → step s = .next t → t.env.trace = s.env.trace ++ [p] →
    p.pin ≠ s.handle.pinDr ∧ p.pin ≠ s.handle.pinRst ∧
    (p.op = .setPinLevel ∨ p.op = .readPinLevel) ∧
    (p = setl s.handle.pinCs .low → s.csAsserted = false ∧ t.sq.pidx = 0 ∧
      ∃ i, decode t.sq.cmdL t.sq.opndL = .command i ∧ (IsTransaction i ∨ i = .assertCs)) ∧
    (p = setl s.handle.pinCs .high → t.csAsserted = false) ∧
    (s.hstate = .ready → s.csAsserted = true → p = setl s.handle.pinCs .high)

/-- R28, R134, R238: without block reset, CS_FAULT rises exactly in a step that takes a failed outcome of
a `SETL(PIN_CS, HIGH)` (that INIT's primitive 1 is one is R28 to the letter, log 12); and the step that
takes the outcome of a release completes the command with the status it would have had: the release's
outcome is no error of its own. -/
def Obligations.CsFaultOnlyFromFailedRelease : Prop :=
  ∀ s t : State, s.Inv → s.takeInput.env.rstN = true → step s = .next t →
    t.csFault = (s.csFault || (s.busy && s.outcome.failed &&
      decide (s.sq.preq = setl s.handle.pinCs .high))) ∧
    (s.busy = true → s.sq.phase = .release → t.busy = false ∧ t.status = .ok) ∧
    (∀ (c : Cause) (k : BitVec 8), s.busy = true → s.sq.phase = .cleanup c k →
      t.busy = false ∧ t.status = .busError ∧ t.errInfo = k ++ c.code)
end

