-- ==== Sys2Proof/Laws/Decode.lean ====
section
/-! SUPPORT. The fields of the packed words, one lemma each: what the decoder's fields read from what the encoder
packs. -/

namespace Sys2Proof

/-- Every bit of a packed command word. -/
theorem getLsbD_packCmd (im : Word16) (a : RegAddr) (s : BitVec 1) (c : BitVec 3) (o : BitVec 4)
    (j : Nat) : (packCmd im a s c o).getLsbD j =
      if j < 4 then o.getLsbD j else if j < 7 then c.getLsbD (j - 4)
      else if j < 8 then s.getLsbD (j - 7) else if j < 16 then a.getLsbD (j - 8)
      else im.getLsbD (j - 16) := by
  unfold packCmd
  rw [BitVec.getLsbD_append, BitVec.getLsbD_append, BitVec.getLsbD_append, BitVec.getLsbD_append]
  grind

/-- Every bit of INIT's packed operand word. -/
theorem getLsbD_packPins (cs dr rst dout din sclk : PinId) (clksel : BitVec 4) (j : Nat) :
    (packPins cs dr rst dout din sclk clksel).getLsbD j =
      if j < 8 then cs.getLsbD j else if j < 16 then dr.getLsbD (j - 8)
      else if j < 24 then rst.getLsbD (j - 16) else if j < 32 then dout.getLsbD (j - 24)
      else if j < 40 then din.getLsbD (j - 32) else if j < 48 then sclk.getLsbD (j - 40)
      else if j < 52 then clksel.getLsbD (j - 48) else false := by
  unfold packPins
  rw [BitVec.getLsbD_append, BitVec.getLsbD_append, BitVec.getLsbD_append, BitVec.getLsbD_append,
    BitVec.getLsbD_append, BitVec.getLsbD_append, BitVec.getLsbD_append]
  simp only [BitVec.ofNat_eq_ofNat, BitVec.getLsbD_zero]
  grind

section
variable (im : Word16) (a : RegAddr) (s : BitVec 1) (c : BitVec 3) (o : BitVec 4)

@[simp] theorem fieldOp_packCmd : fieldOp (packCmd im a s c o) = o := by
  refine BitVec.eq_of_getLsbD_eq fun j hj => ?_
  rw [fieldOp, BitVec.getLsbD_extractLsb', getLsbD_packCmd]
  grind

@[simp] theorem fieldCat_packCmd : fieldCat (packCmd im a s c o) = c := by
  refine BitVec.eq_of_getLsbD_eq fun j hj => ?_
  rw [fieldCat, BitVec.getLsbD_extractLsb', getLsbD_packCmd]
  grind

@[simp] theorem fieldSrc_packCmd : fieldSrc (packCmd im a s c o) = s := by
  refine BitVec.eq_of_getLsbD_eq fun j hj => ?_
  rw [fieldSrc, BitVec.getLsbD_extractLsb', getLsbD_packCmd]
  grind

@[simp] theorem fieldAddr_packCmd : fieldAddr (packCmd im a s c o) = a := by
  refine BitVec.eq_of_getLsbD_eq fun j hj => ?_
  rw [fieldAddr, BitVec.getLsbD_extractLsb', getLsbD_packCmd]
  grind

@[simp] theorem fieldImm16_packCmd : fieldImm16 (packCmd im a s c o) = im := by
  refine BitVec.eq_of_getLsbD_eq fun j hj => ?_
  rw [fieldImm16, BitVec.getLsbD_extractLsb', getLsbD_packCmd]
  grind

end

/-- A command word is its five fields (R101). -/
theorem packCmd_fields (cmd : CmdWord) :
    packCmd (fieldImm16 cmd) (fieldAddr cmd) (fieldSrc cmd) (fieldCat cmd) (fieldOp cmd) = cmd := by
  refine BitVec.eq_of_getLsbD_eq fun j hj => ?_
  rw [getLsbD_packCmd, fieldImm16, fieldAddr, fieldSrc, fieldCat, fieldOp]
  simp only [BitVec.getLsbD_extractLsb']
  grind

/-- Six identifiers are pairwise distinct when INIT's check says so (R200). -/
theorem sixDistinct_iff (cs dr rst dout din sclk : PinId) :
    sixDistinct cs dr rst dout din sclk = true ↔ [cs, dr, rst, dout, din, sclk].Nodup := by
  simp only [sixDistinct, decide_eq_true_eq]

end Sys2Proof
end

