-- ==== Sys2Proof/Laws/State.lean ====
section
/-! SUPPORT. One lemma per field per update of State, true by rfl, so that no proof unfolds an update. -/

namespace Sys2Proof.Machine

section
variable (s : State)

/-! ## The answer of the collaborator -/

@[simp] theorem Env.consume_cmdQueue (e : Env) : e.consume.cmdQueue = e.cmdQueue := by
  unfold Env.consume; split <;> rfl

@[simp] theorem Env.consume_inputs (e : Env) : e.consume.inputs = e.inputs := by
  unfold Env.consume; split <;> rfl

@[simp] theorem Env.consume_gpioReady (e : Env) : e.consume.gpioReady = e.gpioReady := by
  unfold Env.consume; split <;> rfl

@[simp] theorem Env.consume_rstN (e : Env) : e.consume.rstN = e.rstN := by
  unfold Env.consume; split <;> rfl

@[simp] theorem Env.consume_pins (e : Env) : e.consume.pins = e.pins := by
  unfold Env.consume; split <;> rfl

@[simp] theorem Env.consume_trace (e : Env) : e.consume.trace = e.trace := by
  unfold Env.consume; split <;> rfl

@[simp] theorem Env.applyInput_answers (e : Env) (ev : Input) : (e.applyInput ev).answers = e.answers := by
  cases ev <;> rfl

@[simp] theorem Env.takeInput_answers (e : Env) : e.takeInput.answers = e.answers := by
  unfold Env.takeInput; split
  · rfl
  · exact Env.applyInput_answers _ _

@[simp] theorem Env.applyInput_draws (e : Env) (ev : Input) : (e.applyInput ev).draws = e.draws := by
  cases ev <;> rfl

@[simp] theorem Env.takeInput_draws (e : Env) : e.takeInput.draws = e.draws := by
  unfold Env.takeInput; split
  · rfl
  · exact Env.applyInput_draws _ _

@[simp] theorem Env.applyInput_pins (e : Env) (ev : Input) : (e.applyInput ev).pins = e.pins := by
  cases ev <;> rfl

@[simp] theorem Env.takeInput_pins (e : Env) : e.takeInput.pins = e.pins := by
  unfold Env.takeInput; split
  · rfl
  · exact Env.applyInput_pins _ _

@[simp] theorem Env.applyInput_trace (e : Env) (ev : Input) : (e.applyInput ev).trace = e.trace := by
  cases ev <;> rfl

@[simp] theorem Env.takeInput_trace (e : Env) : e.takeInput.trace = e.trace := by
  unfold Env.takeInput; split
  · rfl
  · exact Env.applyInput_trace _ _


/-! ## complete -/

@[simp] theorem State.complete_hstate (st : Status) (c : Cause) (k : BitVec 8) : (s.complete st c k).hstate = s.hstate := rfl
@[simp] theorem State.complete_csAsserted (st : Status) (c : Cause) (k : BitVec 8) : (s.complete st c k).csAsserted = s.csAsserted := rfl
@[simp] theorem State.complete_csFault (st : Status) (c : Cause) (k : BitVec 8) : (s.complete st c k).csFault = s.csFault := rfl
@[simp] theorem State.complete_busy (st : Status) (c : Cause) (k : BitVec 8) : (s.complete st c k).busy = false := rfl
@[simp] theorem State.complete_rdata (st : Status) (c : Cause) (k : BitVec 8) : (s.complete st c k).rdata = s.rdata := rfl
@[simp] theorem State.complete_rdataValid (st : Status) (c : Cause) (k : BitVec 8) : (s.complete st c k).rdataValid = s.rdataValid := rfl
@[simp] theorem State.complete_result (st : Status) (c : Cause) (k : BitVec 8) : (s.complete st c k).result = s.result := rfl
@[simp] theorem State.complete_status (st : Status) (c : Cause) (k : BitVec 8) : (s.complete st c k).status = st := rfl
@[simp] theorem State.complete_errInfo (st : Status) (c : Cause) (k : BitVec 8) : (s.complete st c k).errInfo = errInfoWord c k := rfl
@[simp] theorem State.complete_rspValid (st : Status) (c : Cause) (k : BitVec 8) : (s.complete st c k).rspValid = true := rfl
@[simp] theorem State.complete_scale (st : Status) (c : Cause) (k : BitVec 8) : (s.complete st c k).scale = s.scale := rfl
@[simp] theorem State.complete_handle (st : Status) (c : Cause) (k : BitVec 8) : (s.complete st c k).handle = s.handle := rfl
@[simp] theorem State.complete_cfg (st : Status) (c : Cause) (k : BitVec 8) : (s.complete st c k).cfg = s.cfg := rfl
@[simp] theorem State.complete_sq_cmdL (st : Status) (c : Cause) (k : BitVec 8) :
    (s.complete st c k).sq.cmdL = s.sq.cmdL := rfl
@[simp] theorem State.complete_sq_opndL (st : Status) (c : Cause) (k : BitVec 8) :
    (s.complete st c k).sq.opndL = s.sq.opndL := rfl
@[simp] theorem State.complete_sq_seq (st : Status) (c : Cause) (k : BitVec 8) :
    (s.complete st c k).sq.seq = [] := rfl
@[simp] theorem State.complete_sq_pidx (st : Status) (c : Cause) (k : BitVec 8) :
    (s.complete st c k).sq.pidx = s.sq.pidx := rfl
@[simp] theorem State.complete_sq_shift (st : Status) (c : Cause) (k : BitVec 8) :
    (s.complete st c k).sq.shift = s.sq.shift := rfl
@[simp] theorem State.complete_sq_primPending (st : Status) (c : Cause) (k : BitVec 8) :
    (s.complete st c k).sq.primPending = false := rfl
@[simp] theorem State.complete_sq_preq (st : Status) (c : Cause) (k : BitVec 8) :
    (s.complete st c k).sq.preq = s.sq.preq := rfl
@[simp] theorem State.complete_sq_phase (st : Status) (c : Cause) (k : BitVec 8) :
    (s.complete st c k).sq.phase = .body := rfl
@[simp] theorem State.complete_sq_pollCnt (st : Status) (c : Cause) (k : BitVec 8) :
    (s.complete st c k).sq.pollCnt = s.sq.pollCnt := rfl
@[simp] theorem State.complete_sq_pace (st : Status) (c : Cause) (k : BitVec 8) :
    (s.complete st c k).sq.pace = s.sq.pace := rfl
@[simp] theorem State.complete_env_cmdQueue (st : Status) (c : Cause) (k : BitVec 8) :
    (s.complete st c k).env.cmdQueue = s.env.cmdQueue := rfl
@[simp] theorem State.complete_env_inputs (st : Status) (c : Cause) (k : BitVec 8) :
    (s.complete st c k).env.inputs = s.env.inputs := rfl
@[simp] theorem State.complete_env_gpioReady (st : Status) (c : Cause) (k : BitVec 8) :
    (s.complete st c k).env.gpioReady = s.env.gpioReady := rfl
@[simp] theorem State.complete_env_rstN (st : Status) (c : Cause) (k : BitVec 8) :
    (s.complete st c k).env.rstN = s.env.rstN := rfl
@[simp] theorem State.complete_env_answers (st : Status) (c : Cause) (k : BitVec 8) :
    (s.complete st c k).env.answers = s.env.answers := rfl
@[simp] theorem State.complete_env_draws (st : Status) (c : Cause) (k : BitVec 8) :
    (s.complete st c k).env.draws = s.env.draws := rfl
@[simp] theorem State.complete_env_pins (st : Status) (c : Cause) (k : BitVec 8) :
    (s.complete st c k).env.pins = s.env.pins := rfl
@[simp] theorem State.complete_env_trace (st : Status) (c : Cause) (k : BitVec 8) :
    (s.complete st c k).env.trace = s.env.trace := rfl

/-! ## issue -/

@[simp] theorem State.issue_hstate (p : Request) (l : List Request) (k : BitVec 8) (ph : SeqPhase) : (s.issue p l k ph).hstate = s.hstate := rfl
@[simp] theorem State.issue_csAsserted (p : Request) (l : List Request) (k : BitVec 8) (ph : SeqPhase) : (s.issue p l k ph).csAsserted = s.csAsserted := rfl
@[simp] theorem State.issue_csFault (p : Request) (l : List Request) (k : BitVec 8) (ph : SeqPhase) : (s.issue p l k ph).csFault = s.csFault := rfl
@[simp] theorem State.issue_busy (p : Request) (l : List Request) (k : BitVec 8) (ph : SeqPhase) : (s.issue p l k ph).busy = s.busy := rfl
@[simp] theorem State.issue_rdata (p : Request) (l : List Request) (k : BitVec 8) (ph : SeqPhase) : (s.issue p l k ph).rdata = s.rdata := rfl
@[simp] theorem State.issue_rdataValid (p : Request) (l : List Request) (k : BitVec 8) (ph : SeqPhase) : (s.issue p l k ph).rdataValid = s.rdataValid := rfl
@[simp] theorem State.issue_result (p : Request) (l : List Request) (k : BitVec 8) (ph : SeqPhase) : (s.issue p l k ph).result = s.result := rfl
@[simp] theorem State.issue_status (p : Request) (l : List Request) (k : BitVec 8) (ph : SeqPhase) : (s.issue p l k ph).status = s.status := rfl
@[simp] theorem State.issue_errInfo (p : Request) (l : List Request) (k : BitVec 8) (ph : SeqPhase) : (s.issue p l k ph).errInfo = s.errInfo := rfl
@[simp] theorem State.issue_rspValid (p : Request) (l : List Request) (k : BitVec 8) (ph : SeqPhase) : (s.issue p l k ph).rspValid = s.rspValid := rfl
@[simp] theorem State.issue_scale (p : Request) (l : List Request) (k : BitVec 8) (ph : SeqPhase) : (s.issue p l k ph).scale = s.scale := rfl
@[simp] theorem State.issue_handle (p : Request) (l : List Request) (k : BitVec 8) (ph : SeqPhase) : (s.issue p l k ph).handle = s.handle := rfl
@[simp] theorem State.issue_cfg (p : Request) (l : List Request) (k : BitVec 8) (ph : SeqPhase) : (s.issue p l k ph).cfg = s.cfg := rfl
@[simp] theorem State.issue_sq_cmdL (p : Request) (l : List Request) (k : BitVec 8) (ph : SeqPhase) :
    (s.issue p l k ph).sq.cmdL = s.sq.cmdL := rfl
@[simp] theorem State.issue_sq_opndL (p : Request) (l : List Request) (k : BitVec 8) (ph : SeqPhase) :
    (s.issue p l k ph).sq.opndL = s.sq.opndL := rfl
@[simp] theorem State.issue_sq_seq (p : Request) (l : List Request) (k : BitVec 8) (ph : SeqPhase) :
    (s.issue p l k ph).sq.seq = l := rfl
@[simp] theorem State.issue_sq_pidx (p : Request) (l : List Request) (k : BitVec 8) (ph : SeqPhase) :
    (s.issue p l k ph).sq.pidx = k := rfl
@[simp] theorem State.issue_sq_shift (p : Request) (l : List Request) (k : BitVec 8) (ph : SeqPhase) :
    (s.issue p l k ph).sq.shift = s.sq.shift := rfl
@[simp] theorem State.issue_sq_primPending (p : Request) (l : List Request) (k : BitVec 8) (ph : SeqPhase) :
    (s.issue p l k ph).sq.primPending = true := rfl
@[simp] theorem State.issue_sq_preq (p : Request) (l : List Request) (k : BitVec 8) (ph : SeqPhase) :
    (s.issue p l k ph).sq.preq = p := rfl
@[simp] theorem State.issue_sq_phase (p : Request) (l : List Request) (k : BitVec 8) (ph : SeqPhase) :
    (s.issue p l k ph).sq.phase = ph := rfl
@[simp] theorem State.issue_sq_pollCnt (p : Request) (l : List Request) (k : BitVec 8) (ph : SeqPhase) :
    (s.issue p l k ph).sq.pollCnt = 0 := rfl
@[simp] theorem State.issue_sq_pace (p : Request) (l : List Request) (k : BitVec 8) (ph : SeqPhase) :
    (s.issue p l k ph).sq.pace = if isSclkLevel s.handle p then s.cfg.tHalf else s.sq.pace := rfl
@[simp] theorem State.issue_env_cmdQueue (p : Request) (l : List Request) (k : BitVec 8) (ph : SeqPhase) :
    (s.issue p l k ph).env.cmdQueue = s.env.cmdQueue := rfl
@[simp] theorem State.issue_env_inputs (p : Request) (l : List Request) (k : BitVec 8) (ph : SeqPhase) :
    (s.issue p l k ph).env.inputs = s.env.inputs := rfl
@[simp] theorem State.issue_env_gpioReady (p : Request) (l : List Request) (k : BitVec 8) (ph : SeqPhase) :
    (s.issue p l k ph).env.gpioReady = s.env.gpioReady := rfl
@[simp] theorem State.issue_env_rstN (p : Request) (l : List Request) (k : BitVec 8) (ph : SeqPhase) :
    (s.issue p l k ph).env.rstN = s.env.rstN := rfl
@[simp] theorem State.issue_env_answers (p : Request) (l : List Request) (k : BitVec 8) (ph : SeqPhase) :
    (s.issue p l k ph).env.answers = s.env.answers := rfl
@[simp] theorem State.issue_env_draws (p : Request) (l : List Request) (k : BitVec 8) (ph : SeqPhase) :
    (s.issue p l k ph).env.draws = s.env.draws := rfl
@[simp] theorem State.issue_env_pins (p : Request) (l : List Request) (k : BitVec 8) (ph : SeqPhase) :
    (s.issue p l k ph).env.pins = s.env.pins := rfl
@[simp] theorem State.issue_env_trace (p : Request) (l : List Request) (k : BitVec 8) (ph : SeqPhase) :
    (s.issue p l k ph).env.trace = s.env.trace ++ [p] := rfl

/-! ## issueRelease -/

@[simp] theorem State.issueRelease_hstate (k : BitVec 8) (ph : SeqPhase) : (s.issueRelease k ph).hstate = s.hstate := rfl
@[simp] theorem State.issueRelease_csAsserted (k : BitVec 8) (ph : SeqPhase) : (s.issueRelease k ph).csAsserted = false := rfl
@[simp] theorem State.issueRelease_csFault (k : BitVec 8) (ph : SeqPhase) : (s.issueRelease k ph).csFault = s.csFault := rfl
@[simp] theorem State.issueRelease_busy (k : BitVec 8) (ph : SeqPhase) : (s.issueRelease k ph).busy = s.busy := rfl
@[simp] theorem State.issueRelease_rdata (k : BitVec 8) (ph : SeqPhase) : (s.issueRelease k ph).rdata = s.rdata := rfl
@[simp] theorem State.issueRelease_rdataValid (k : BitVec 8) (ph : SeqPhase) : (s.issueRelease k ph).rdataValid = s.rdataValid := rfl
@[simp] theorem State.issueRelease_result (k : BitVec 8) (ph : SeqPhase) : (s.issueRelease k ph).result = s.result := rfl
@[simp] theorem State.issueRelease_status (k : BitVec 8) (ph : SeqPhase) : (s.issueRelease k ph).status = s.status := rfl
@[simp] theorem State.issueRelease_errInfo (k : BitVec 8) (ph : SeqPhase) : (s.issueRelease k ph).errInfo = s.errInfo := rfl
@[simp] theorem State.issueRelease_rspValid (k : BitVec 8) (ph : SeqPhase) : (s.issueRelease k ph).rspValid = s.rspValid := rfl
@[simp] theorem State.issueRelease_scale (k : BitVec 8) (ph : SeqPhase) : (s.issueRelease k ph).scale = s.scale := rfl
@[simp] theorem State.issueRelease_handle (k : BitVec 8) (ph : SeqPhase) : (s.issueRelease k ph).handle = s.handle := rfl
@[simp] theorem State.issueRelease_cfg (k : BitVec 8) (ph : SeqPhase) : (s.issueRelease k ph).cfg = s.cfg := rfl
@[simp] theorem State.issueRelease_sq_cmdL (k : BitVec 8) (ph : SeqPhase) :
    (s.issueRelease k ph).sq.cmdL = s.sq.cmdL := rfl
@[simp] theorem State.issueRelease_sq_opndL (k : BitVec 8) (ph : SeqPhase) :
    (s.issueRelease k ph).sq.opndL = s.sq.opndL := rfl
@[simp] theorem State.issueRelease_sq_seq (k : BitVec 8) (ph : SeqPhase) :
    (s.issueRelease k ph).sq.seq = [] := rfl
@[simp] theorem State.issueRelease_sq_pidx (k : BitVec 8) (ph : SeqPhase) :
    (s.issueRelease k ph).sq.pidx = k := rfl
@[simp] theorem State.issueRelease_sq_shift (k : BitVec 8) (ph : SeqPhase) :
    (s.issueRelease k ph).sq.shift = s.sq.shift := rfl
@[simp] theorem State.issueRelease_sq_primPending (k : BitVec 8) (ph : SeqPhase) :
    (s.issueRelease k ph).sq.primPending = true := rfl
@[simp] theorem State.issueRelease_sq_preq (k : BitVec 8) (ph : SeqPhase) :
    (s.issueRelease k ph).sq.preq = setl s.handle.pinCs .high := rfl
@[simp] theorem State.issueRelease_sq_phase (k : BitVec 8) (ph : SeqPhase) :
    (s.issueRelease k ph).sq.phase = ph := rfl
@[simp] theorem State.issueRelease_sq_pollCnt (k : BitVec 8) (ph : SeqPhase) :
    (s.issueRelease k ph).sq.pollCnt = 0 := rfl
@[simp] theorem State.issueRelease_env_cmdQueue (k : BitVec 8) (ph : SeqPhase) :
    (s.issueRelease k ph).env.cmdQueue = s.env.cmdQueue := rfl
@[simp] theorem State.issueRelease_env_inputs (k : BitVec 8) (ph : SeqPhase) :
    (s.issueRelease k ph).env.inputs = s.env.inputs := rfl
@[simp] theorem State.issueRelease_env_gpioReady (k : BitVec 8) (ph : SeqPhase) :
    (s.issueRelease k ph).env.gpioReady = s.env.gpioReady := rfl
@[simp] theorem State.issueRelease_env_rstN (k : BitVec 8) (ph : SeqPhase) :
    (s.issueRelease k ph).env.rstN = s.env.rstN := rfl
@[simp] theorem State.issueRelease_env_answers (k : BitVec 8) (ph : SeqPhase) :
    (s.issueRelease k ph).env.answers = s.env.answers := rfl
@[simp] theorem State.issueRelease_env_draws (k : BitVec 8) (ph : SeqPhase) :
    (s.issueRelease k ph).env.draws = s.env.draws := rfl
@[simp] theorem State.issueRelease_env_pins (k : BitVec 8) (ph : SeqPhase) :
    (s.issueRelease k ph).env.pins = s.env.pins := rfl
@[simp] theorem State.issueRelease_env_trace (k : BitVec 8) (ph : SeqPhase) :
    (s.issueRelease k ph).env.trace = s.env.trace ++ [setl s.handle.pinCs .high] := rfl

/-! ## settle -/

@[simp] theorem State.settle_hstate : (s.settle).hstate = s.hstate := rfl
@[simp] theorem State.settle_csAsserted : (s.settle).csAsserted = s.csAsserted := rfl
@[simp] theorem State.settle_csFault : (s.settle).csFault = s.csFault := rfl
@[simp] theorem State.settle_busy : (s.settle).busy = s.busy := rfl
@[simp] theorem State.settle_rdata : (s.settle).rdata = s.rdata := rfl
@[simp] theorem State.settle_rdataValid : (s.settle).rdataValid = s.rdataValid := rfl
@[simp] theorem State.settle_result : (s.settle).result = s.result := rfl
@[simp] theorem State.settle_status : (s.settle).status = s.status := rfl
@[simp] theorem State.settle_errInfo : (s.settle).errInfo = s.errInfo := rfl
@[simp] theorem State.settle_rspValid : (s.settle).rspValid = s.rspValid := rfl
@[simp] theorem State.settle_scale : (s.settle).scale = s.scale := rfl
@[simp] theorem State.settle_handle : (s.settle).handle = s.handle := rfl
@[simp] theorem State.settle_cfg : (s.settle).cfg = s.cfg := rfl
@[simp] theorem State.settle_sq_cmdL :
    (s.settle).sq.cmdL = s.sq.cmdL := rfl
@[simp] theorem State.settle_sq_opndL :
    (s.settle).sq.opndL = s.sq.opndL := rfl
@[simp] theorem State.settle_sq_seq :
    (s.settle).sq.seq = s.sq.seq := rfl
@[simp] theorem State.settle_sq_pidx :
    (s.settle).sq.pidx = s.sq.pidx := rfl
@[simp] theorem State.settle_sq_shift :
    (s.settle).sq.shift = s.sq.shift := rfl
@[simp] theorem State.settle_sq_primPending :
    (s.settle).sq.primPending = false := rfl
@[simp] theorem State.settle_sq_preq :
    (s.settle).sq.preq = s.sq.preq := rfl
@[simp] theorem State.settle_sq_phase :
    (s.settle).sq.phase = s.sq.phase := rfl
@[simp] theorem State.settle_sq_pollCnt :
    (s.settle).sq.pollCnt = BitVec.ofNat 16 (s.env.answer.cycles s.handle.pollBudget) := rfl
@[simp] theorem State.settle_sq_pace :
    (s.settle).sq.pace = s.sq.pace - s.env.answer.cycles s.handle.pollBudget := rfl
@[simp] theorem State.settle_env_cmdQueue :
    (s.settle).env.cmdQueue = s.env.consume.cmdQueue := rfl
@[simp] theorem State.settle_env_inputs :
    (s.settle).env.inputs = s.env.consume.inputs := rfl
@[simp] theorem State.settle_env_gpioReady :
    (s.settle).env.gpioReady = s.env.consume.gpioReady := rfl
@[simp] theorem State.settle_env_rstN :
    (s.settle).env.rstN = s.env.consume.rstN := rfl
@[simp] theorem State.settle_env_answers :
    (s.settle).env.answers = s.env.consume.answers := rfl
@[simp] theorem State.settle_env_draws :
    (s.settle).env.draws = s.env.consume.draws := rfl
@[simp] theorem State.settle_env_pins :
    (s.settle).env.pins = s.env.pins.apply s.sq.preq s.outcome := rfl
@[simp] theorem State.settle_env_trace :
    (s.settle).env.trace = s.env.consume.trace := rfl

/-! ## noteRelease -/

@[simp] theorem State.noteRelease_hstate (o : PrimOutcome) : (s.noteRelease o).hstate = s.hstate := rfl
@[simp] theorem State.noteRelease_csAsserted (o : PrimOutcome) : (s.noteRelease o).csAsserted = s.csAsserted := rfl
@[simp] theorem State.noteRelease_csFault (o : PrimOutcome) : (s.noteRelease o).csFault = (s.csFault || o.failed) := rfl
@[simp] theorem State.noteRelease_busy (o : PrimOutcome) : (s.noteRelease o).busy = s.busy := rfl
@[simp] theorem State.noteRelease_rdata (o : PrimOutcome) : (s.noteRelease o).rdata = s.rdata := rfl
@[simp] theorem State.noteRelease_rdataValid (o : PrimOutcome) : (s.noteRelease o).rdataValid = s.rdataValid := rfl
@[simp] theorem State.noteRelease_result (o : PrimOutcome) : (s.noteRelease o).result = s.result := rfl
@[simp] theorem State.noteRelease_status (o : PrimOutcome) : (s.noteRelease o).status = s.status := rfl
@[simp] theorem State.noteRelease_errInfo (o : PrimOutcome) : (s.noteRelease o).errInfo = s.errInfo := rfl
@[simp] theorem State.noteRelease_rspValid (o : PrimOutcome) : (s.noteRelease o).rspValid = s.rspValid := rfl
@[simp] theorem State.noteRelease_scale (o : PrimOutcome) : (s.noteRelease o).scale = s.scale := rfl
@[simp] theorem State.noteRelease_handle (o : PrimOutcome) : (s.noteRelease o).handle = s.handle := rfl
@[simp] theorem State.noteRelease_cfg (o : PrimOutcome) : (s.noteRelease o).cfg = s.cfg := rfl
@[simp] theorem State.noteRelease_sq_cmdL (o : PrimOutcome) :
    (s.noteRelease o).sq.cmdL = s.sq.cmdL := rfl
@[simp] theorem State.noteRelease_sq_opndL (o : PrimOutcome) :
    (s.noteRelease o).sq.opndL = s.sq.opndL := rfl
@[simp] theorem State.noteRelease_sq_seq (o : PrimOutcome) :
    (s.noteRelease o).sq.seq = s.sq.seq := rfl
@[simp] theorem State.noteRelease_sq_pidx (o : PrimOutcome) :
    (s.noteRelease o).sq.pidx = s.sq.pidx := rfl
@[simp] theorem State.noteRelease_sq_shift (o : PrimOutcome) :
    (s.noteRelease o).sq.shift = s.sq.shift := rfl
@[simp] theorem State.noteRelease_sq_primPending (o : PrimOutcome) :
    (s.noteRelease o).sq.primPending = s.sq.primPending := rfl
@[simp] theorem State.noteRelease_sq_preq (o : PrimOutcome) :
    (s.noteRelease o).sq.preq = s.sq.preq := rfl
@[simp] theorem State.noteRelease_sq_phase (o : PrimOutcome) :
    (s.noteRelease o).sq.phase = s.sq.phase := rfl
@[simp] theorem State.noteRelease_sq_pollCnt (o : PrimOutcome) :
    (s.noteRelease o).sq.pollCnt = s.sq.pollCnt := rfl
@[simp] theorem State.noteRelease_sq_pace (o : PrimOutcome) :
    (s.noteRelease o).sq.pace = s.sq.pace := rfl
@[simp] theorem State.noteRelease_env_cmdQueue (o : PrimOutcome) :
    (s.noteRelease o).env.cmdQueue = s.env.cmdQueue := rfl
@[simp] theorem State.noteRelease_env_inputs (o : PrimOutcome) :
    (s.noteRelease o).env.inputs = s.env.inputs := rfl
@[simp] theorem State.noteRelease_env_gpioReady (o : PrimOutcome) :
    (s.noteRelease o).env.gpioReady = s.env.gpioReady := rfl
@[simp] theorem State.noteRelease_env_rstN (o : PrimOutcome) :
    (s.noteRelease o).env.rstN = s.env.rstN := rfl
@[simp] theorem State.noteRelease_env_answers (o : PrimOutcome) :
    (s.noteRelease o).env.answers = s.env.answers := rfl
@[simp] theorem State.noteRelease_env_draws (o : PrimOutcome) :
    (s.noteRelease o).env.draws = s.env.draws := rfl
@[simp] theorem State.noteRelease_env_pins (o : PrimOutcome) :
    (s.noteRelease o).env.pins = s.env.pins := rfl
@[simp] theorem State.noteRelease_env_trace (o : PrimOutcome) :
    (s.noteRelease o).env.trace = s.env.trace := rfl

/-! ## noteCsHigh -/

@[simp] theorem State.noteCsHigh_hstate (o : PrimOutcome) : (s.noteCsHigh o).hstate = s.hstate := rfl
@[simp] theorem State.noteCsHigh_csAsserted (o : PrimOutcome) : (s.noteCsHigh o).csAsserted = s.csAsserted := rfl
@[simp] theorem State.noteCsHigh_csFault (o : PrimOutcome) : (s.noteCsHigh o).csFault = (s.csFault || (o.failed && decide (s.sq.preq = setl s.handle.pinCs .high))) := rfl
@[simp] theorem State.noteCsHigh_busy (o : PrimOutcome) : (s.noteCsHigh o).busy = s.busy := rfl
@[simp] theorem State.noteCsHigh_rdata (o : PrimOutcome) : (s.noteCsHigh o).rdata = s.rdata := rfl
@[simp] theorem State.noteCsHigh_rdataValid (o : PrimOutcome) : (s.noteCsHigh o).rdataValid = s.rdataValid := rfl
@[simp] theorem State.noteCsHigh_result (o : PrimOutcome) : (s.noteCsHigh o).result = s.result := rfl
@[simp] theorem State.noteCsHigh_status (o : PrimOutcome) : (s.noteCsHigh o).status = s.status := rfl
@[simp] theorem State.noteCsHigh_errInfo (o : PrimOutcome) : (s.noteCsHigh o).errInfo = s.errInfo := rfl
@[simp] theorem State.noteCsHigh_rspValid (o : PrimOutcome) : (s.noteCsHigh o).rspValid = s.rspValid := rfl
@[simp] theorem State.noteCsHigh_scale (o : PrimOutcome) : (s.noteCsHigh o).scale = s.scale := rfl
@[simp] theorem State.noteCsHigh_handle (o : PrimOutcome) : (s.noteCsHigh o).handle = s.handle := rfl
@[simp] theorem State.noteCsHigh_cfg (o : PrimOutcome) : (s.noteCsHigh o).cfg = s.cfg := rfl
@[simp] theorem State.noteCsHigh_sq_cmdL (o : PrimOutcome) :
    (s.noteCsHigh o).sq.cmdL = s.sq.cmdL := rfl
@[simp] theorem State.noteCsHigh_sq_opndL (o : PrimOutcome) :
    (s.noteCsHigh o).sq.opndL = s.sq.opndL := rfl
@[simp] theorem State.noteCsHigh_sq_seq (o : PrimOutcome) :
    (s.noteCsHigh o).sq.seq = s.sq.seq := rfl
@[simp] theorem State.noteCsHigh_sq_pidx (o : PrimOutcome) :
    (s.noteCsHigh o).sq.pidx = s.sq.pidx := rfl
@[simp] theorem State.noteCsHigh_sq_shift (o : PrimOutcome) :
    (s.noteCsHigh o).sq.shift = s.sq.shift := rfl
@[simp] theorem State.noteCsHigh_sq_primPending (o : PrimOutcome) :
    (s.noteCsHigh o).sq.primPending = s.sq.primPending := rfl
@[simp] theorem State.noteCsHigh_sq_preq (o : PrimOutcome) :
    (s.noteCsHigh o).sq.preq = s.sq.preq := rfl
@[simp] theorem State.noteCsHigh_sq_phase (o : PrimOutcome) :
    (s.noteCsHigh o).sq.phase = s.sq.phase := rfl
@[simp] theorem State.noteCsHigh_sq_pollCnt (o : PrimOutcome) :
    (s.noteCsHigh o).sq.pollCnt = s.sq.pollCnt := rfl
@[simp] theorem State.noteCsHigh_sq_pace (o : PrimOutcome) :
    (s.noteCsHigh o).sq.pace = s.sq.pace := rfl
@[simp] theorem State.noteCsHigh_env_cmdQueue (o : PrimOutcome) :
    (s.noteCsHigh o).env.cmdQueue = s.env.cmdQueue := rfl
@[simp] theorem State.noteCsHigh_env_inputs (o : PrimOutcome) :
    (s.noteCsHigh o).env.inputs = s.env.inputs := rfl
@[simp] theorem State.noteCsHigh_env_gpioReady (o : PrimOutcome) :
    (s.noteCsHigh o).env.gpioReady = s.env.gpioReady := rfl
@[simp] theorem State.noteCsHigh_env_rstN (o : PrimOutcome) :
    (s.noteCsHigh o).env.rstN = s.env.rstN := rfl
@[simp] theorem State.noteCsHigh_env_answers (o : PrimOutcome) :
    (s.noteCsHigh o).env.answers = s.env.answers := rfl
@[simp] theorem State.noteCsHigh_env_draws (o : PrimOutcome) :
    (s.noteCsHigh o).env.draws = s.env.draws := rfl
@[simp] theorem State.noteCsHigh_env_pins (o : PrimOutcome) :
    (s.noteCsHigh o).env.pins = s.env.pins := rfl
@[simp] theorem State.noteCsHigh_env_trace (o : PrimOutcome) :
    (s.noteCsHigh o).env.trace = s.env.trace := rfl

/-! ## absorb -/

@[simp] theorem State.absorb_hstate (l : Level) : (s.absorb l).hstate = s.hstate := rfl
@[simp] theorem State.absorb_csAsserted (l : Level) : (s.absorb l).csAsserted = if s.sq.pidx = 0 then true else s.csAsserted := rfl
@[simp] theorem State.absorb_csFault (l : Level) : (s.absorb l).csFault = s.csFault := rfl
@[simp] theorem State.absorb_busy (l : Level) : (s.absorb l).busy = s.busy := rfl
@[simp] theorem State.absorb_rdata (l : Level) : (s.absorb l).rdata = s.rdata := rfl
@[simp] theorem State.absorb_rdataValid (l : Level) : (s.absorb l).rdataValid = s.rdataValid := rfl
@[simp] theorem State.absorb_result (l : Level) : (s.absorb l).result = s.result := rfl
@[simp] theorem State.absorb_status (l : Level) : (s.absorb l).status = s.status := rfl
@[simp] theorem State.absorb_errInfo (l : Level) : (s.absorb l).errInfo = s.errInfo := rfl
@[simp] theorem State.absorb_rspValid (l : Level) : (s.absorb l).rspValid = s.rspValid := rfl
@[simp] theorem State.absorb_scale (l : Level) : (s.absorb l).scale = s.scale := rfl
@[simp] theorem State.absorb_handle (l : Level) : (s.absorb l).handle = s.handle := rfl
@[simp] theorem State.absorb_cfg (l : Level) : (s.absorb l).cfg = s.cfg := rfl
@[simp] theorem State.absorb_sq_cmdL (l : Level) :
    (s.absorb l).sq.cmdL = s.sq.cmdL := rfl
@[simp] theorem State.absorb_sq_opndL (l : Level) :
    (s.absorb l).sq.opndL = s.sq.opndL := rfl
@[simp] theorem State.absorb_sq_seq (l : Level) :
    (s.absorb l).sq.seq = s.sq.seq := rfl
@[simp] theorem State.absorb_sq_pidx (l : Level) :
    (s.absorb l).sq.pidx = s.sq.pidx := rfl
@[simp] theorem State.absorb_sq_shift (l : Level) :
    (s.absorb l).sq.shift = if s.sq.preq.op = .readPinLevel then setBit s.sq.shift (dataBitOf s.sq.pidx) l else s.sq.shift := rfl
@[simp] theorem State.absorb_sq_primPending (l : Level) :
    (s.absorb l).sq.primPending = s.sq.primPending := rfl
@[simp] theorem State.absorb_sq_preq (l : Level) :
    (s.absorb l).sq.preq = s.sq.preq := rfl
@[simp] theorem State.absorb_sq_phase (l : Level) :
    (s.absorb l).sq.phase = s.sq.phase := rfl
@[simp] theorem State.absorb_sq_pollCnt (l : Level) :
    (s.absorb l).sq.pollCnt = s.sq.pollCnt := rfl
@[simp] theorem State.absorb_sq_pace (l : Level) :
    (s.absorb l).sq.pace = s.sq.pace := rfl
@[simp] theorem State.absorb_env_cmdQueue (l : Level) :
    (s.absorb l).env.cmdQueue = s.env.cmdQueue := rfl
@[simp] theorem State.absorb_env_inputs (l : Level) :
    (s.absorb l).env.inputs = s.env.inputs := rfl
@[simp] theorem State.absorb_env_gpioReady (l : Level) :
    (s.absorb l).env.gpioReady = s.env.gpioReady := rfl
@[simp] theorem State.absorb_env_rstN (l : Level) :
    (s.absorb l).env.rstN = s.env.rstN := rfl
@[simp] theorem State.absorb_env_answers (l : Level) :
    (s.absorb l).env.answers = s.env.answers := rfl
@[simp] theorem State.absorb_env_draws (l : Level) :
    (s.absorb l).env.draws = s.env.draws := rfl
@[simp] theorem State.absorb_env_pins (l : Level) :
    (s.absorb l).env.pins = s.env.pins := rfl
@[simp] theorem State.absorb_env_trace (l : Level) :
    (s.absorb l).env.trace = s.env.trace := rfl

/-! ## clearRead -/

@[simp] theorem State.clearRead_hstate : (s.clearRead).hstate = s.hstate := rfl
@[simp] theorem State.clearRead_csAsserted : (s.clearRead).csAsserted = s.csAsserted := rfl
@[simp] theorem State.clearRead_csFault : (s.clearRead).csFault = s.csFault := rfl
@[simp] theorem State.clearRead_busy : (s.clearRead).busy = s.busy := rfl
@[simp] theorem State.clearRead_rdata : (s.clearRead).rdata = 0 := rfl
@[simp] theorem State.clearRead_rdataValid : (s.clearRead).rdataValid = false := rfl
@[simp] theorem State.clearRead_result : (s.clearRead).result = s.result := rfl
@[simp] theorem State.clearRead_status : (s.clearRead).status = s.status := rfl
@[simp] theorem State.clearRead_errInfo : (s.clearRead).errInfo = s.errInfo := rfl
@[simp] theorem State.clearRead_rspValid : (s.clearRead).rspValid = s.rspValid := rfl
@[simp] theorem State.clearRead_scale : (s.clearRead).scale = s.scale := rfl
@[simp] theorem State.clearRead_handle : (s.clearRead).handle = s.handle := rfl
@[simp] theorem State.clearRead_cfg : (s.clearRead).cfg = s.cfg := rfl
@[simp] theorem State.clearRead_sq_cmdL :
    (s.clearRead).sq.cmdL = s.sq.cmdL := rfl
@[simp] theorem State.clearRead_sq_opndL :
    (s.clearRead).sq.opndL = s.sq.opndL := rfl
@[simp] theorem State.clearRead_sq_seq :
    (s.clearRead).sq.seq = s.sq.seq := rfl
@[simp] theorem State.clearRead_sq_pidx :
    (s.clearRead).sq.pidx = s.sq.pidx := rfl
@[simp] theorem State.clearRead_sq_shift :
    (s.clearRead).sq.shift = s.sq.shift := rfl
@[simp] theorem State.clearRead_sq_primPending :
    (s.clearRead).sq.primPending = s.sq.primPending := rfl
@[simp] theorem State.clearRead_sq_preq :
    (s.clearRead).sq.preq = s.sq.preq := rfl
@[simp] theorem State.clearRead_sq_phase :
    (s.clearRead).sq.phase = s.sq.phase := rfl
@[simp] theorem State.clearRead_sq_pollCnt :
    (s.clearRead).sq.pollCnt = s.sq.pollCnt := rfl
@[simp] theorem State.clearRead_sq_pace :
    (s.clearRead).sq.pace = s.sq.pace := rfl
@[simp] theorem State.clearRead_env_cmdQueue :
    (s.clearRead).env.cmdQueue = s.env.cmdQueue := rfl
@[simp] theorem State.clearRead_env_inputs :
    (s.clearRead).env.inputs = s.env.inputs := rfl
@[simp] theorem State.clearRead_env_gpioReady :
    (s.clearRead).env.gpioReady = s.env.gpioReady := rfl
@[simp] theorem State.clearRead_env_rstN :
    (s.clearRead).env.rstN = s.env.rstN := rfl
@[simp] theorem State.clearRead_env_answers :
    (s.clearRead).env.answers = s.env.answers := rfl
@[simp] theorem State.clearRead_env_draws :
    (s.clearRead).env.draws = s.env.draws := rfl
@[simp] theorem State.clearRead_env_pins :
    (s.clearRead).env.pins = s.env.pins := rfl
@[simp] theorem State.clearRead_env_trace :
    (s.clearRead).env.trace = s.env.trace := rfl

/-! ## commitRead -/

@[simp] theorem State.commitRead_hstate : (s.commitRead).hstate = s.hstate := rfl
@[simp] theorem State.commitRead_csAsserted : (s.commitRead).csAsserted = s.csAsserted := rfl
@[simp] theorem State.commitRead_csFault : (s.commitRead).csFault = s.csFault := rfl
@[simp] theorem State.commitRead_busy : (s.commitRead).busy = s.busy := rfl
@[simp] theorem State.commitRead_rdata : (s.commitRead).rdata = s.sq.shift := rfl
@[simp] theorem State.commitRead_rdataValid : (s.commitRead).rdataValid = true := rfl
@[simp] theorem State.commitRead_result : (s.commitRead).result = s.result := rfl
@[simp] theorem State.commitRead_status : (s.commitRead).status = s.status := rfl
@[simp] theorem State.commitRead_errInfo : (s.commitRead).errInfo = s.errInfo := rfl
@[simp] theorem State.commitRead_rspValid : (s.commitRead).rspValid = s.rspValid := rfl
@[simp] theorem State.commitRead_scale : (s.commitRead).scale = s.scale := rfl
@[simp] theorem State.commitRead_handle : (s.commitRead).handle = s.handle := rfl
@[simp] theorem State.commitRead_cfg : (s.commitRead).cfg = s.cfg := rfl
@[simp] theorem State.commitRead_sq_cmdL :
    (s.commitRead).sq.cmdL = s.sq.cmdL := rfl
@[simp] theorem State.commitRead_sq_opndL :
    (s.commitRead).sq.opndL = s.sq.opndL := rfl
@[simp] theorem State.commitRead_sq_seq :
    (s.commitRead).sq.seq = s.sq.seq := rfl
@[simp] theorem State.commitRead_sq_pidx :
    (s.commitRead).sq.pidx = s.sq.pidx := rfl
@[simp] theorem State.commitRead_sq_shift :
    (s.commitRead).sq.shift = s.sq.shift := rfl
@[simp] theorem State.commitRead_sq_primPending :
    (s.commitRead).sq.primPending = s.sq.primPending := rfl
@[simp] theorem State.commitRead_sq_preq :
    (s.commitRead).sq.preq = s.sq.preq := rfl
@[simp] theorem State.commitRead_sq_phase :
    (s.commitRead).sq.phase = s.sq.phase := rfl
@[simp] theorem State.commitRead_sq_pollCnt :
    (s.commitRead).sq.pollCnt = s.sq.pollCnt := rfl
@[simp] theorem State.commitRead_sq_pace :
    (s.commitRead).sq.pace = s.sq.pace := rfl
@[simp] theorem State.commitRead_env_cmdQueue :
    (s.commitRead).env.cmdQueue = s.env.cmdQueue := rfl
@[simp] theorem State.commitRead_env_inputs :
    (s.commitRead).env.inputs = s.env.inputs := rfl
@[simp] theorem State.commitRead_env_gpioReady :
    (s.commitRead).env.gpioReady = s.env.gpioReady := rfl
@[simp] theorem State.commitRead_env_rstN :
    (s.commitRead).env.rstN = s.env.rstN := rfl
@[simp] theorem State.commitRead_env_answers :
    (s.commitRead).env.answers = s.env.answers := rfl
@[simp] theorem State.commitRead_env_draws :
    (s.commitRead).env.draws = s.env.draws := rfl
@[simp] theorem State.commitRead_env_pins :
    (s.commitRead).env.pins = s.env.pins := rfl
@[simp] theorem State.commitRead_env_trace :
    (s.commitRead).env.trace = s.env.trace := rfl

/-! ## accept -/

@[simp] theorem State.accept_hstate (cmd : CmdWord) (opnd : OpndWord) (q : List (CmdWord × OpndWord)) : (s.accept cmd opnd q).hstate = s.hstate := rfl
@[simp] theorem State.accept_csAsserted (cmd : CmdWord) (opnd : OpndWord) (q : List (CmdWord × OpndWord)) : (s.accept cmd opnd q).csAsserted = s.csAsserted := rfl
@[simp] theorem State.accept_csFault (cmd : CmdWord) (opnd : OpndWord) (q : List (CmdWord × OpndWord)) : (s.accept cmd opnd q).csFault = s.csFault := rfl
@[simp] theorem State.accept_busy (cmd : CmdWord) (opnd : OpndWord) (q : List (CmdWord × OpndWord)) : (s.accept cmd opnd q).busy = true := rfl
@[simp] theorem State.accept_rdata (cmd : CmdWord) (opnd : OpndWord) (q : List (CmdWord × OpndWord)) : (s.accept cmd opnd q).rdata = s.rdata := rfl
@[simp] theorem State.accept_rdataValid (cmd : CmdWord) (opnd : OpndWord) (q : List (CmdWord × OpndWord)) : (s.accept cmd opnd q).rdataValid = s.rdataValid := rfl
@[simp] theorem State.accept_result (cmd : CmdWord) (opnd : OpndWord) (q : List (CmdWord × OpndWord)) : (s.accept cmd opnd q).result = s.result := rfl
@[simp] theorem State.accept_status (cmd : CmdWord) (opnd : OpndWord) (q : List (CmdWord × OpndWord)) : (s.accept cmd opnd q).status = s.status := rfl
@[simp] theorem State.accept_errInfo (cmd : CmdWord) (opnd : OpndWord) (q : List (CmdWord × OpndWord)) : (s.accept cmd opnd q).errInfo = s.errInfo := rfl
@[simp] theorem State.accept_rspValid (cmd : CmdWord) (opnd : OpndWord) (q : List (CmdWord × OpndWord)) : (s.accept cmd opnd q).rspValid = false := rfl
@[simp] theorem State.accept_scale (cmd : CmdWord) (opnd : OpndWord) (q : List (CmdWord × OpndWord)) : (s.accept cmd opnd q).scale = s.scale := rfl
@[simp] theorem State.accept_handle (cmd : CmdWord) (opnd : OpndWord) (q : List (CmdWord × OpndWord)) : (s.accept cmd opnd q).handle = s.handle := rfl
@[simp] theorem State.accept_cfg (cmd : CmdWord) (opnd : OpndWord) (q : List (CmdWord × OpndWord)) : (s.accept cmd opnd q).cfg = s.cfg := rfl
@[simp] theorem State.accept_sq_cmdL (cmd : CmdWord) (opnd : OpndWord) (q : List (CmdWord × OpndWord)) :
    (s.accept cmd opnd q).sq.cmdL = cmd := rfl
@[simp] theorem State.accept_sq_opndL (cmd : CmdWord) (opnd : OpndWord) (q : List (CmdWord × OpndWord)) :
    (s.accept cmd opnd q).sq.opndL = opnd := rfl
@[simp] theorem State.accept_sq_seq (cmd : CmdWord) (opnd : OpndWord) (q : List (CmdWord × OpndWord)) :
    (s.accept cmd opnd q).sq.seq = s.sq.seq := rfl
@[simp] theorem State.accept_sq_pidx (cmd : CmdWord) (opnd : OpndWord) (q : List (CmdWord × OpndWord)) :
    (s.accept cmd opnd q).sq.pidx = s.sq.pidx := rfl
@[simp] theorem State.accept_sq_shift (cmd : CmdWord) (opnd : OpndWord) (q : List (CmdWord × OpndWord)) :
    (s.accept cmd opnd q).sq.shift = s.sq.shift := rfl
@[simp] theorem State.accept_sq_primPending (cmd : CmdWord) (opnd : OpndWord) (q : List (CmdWord × OpndWord)) :
    (s.accept cmd opnd q).sq.primPending = false := rfl
@[simp] theorem State.accept_sq_preq (cmd : CmdWord) (opnd : OpndWord) (q : List (CmdWord × OpndWord)) :
    (s.accept cmd opnd q).sq.preq = s.sq.preq := rfl
@[simp] theorem State.accept_sq_phase (cmd : CmdWord) (opnd : OpndWord) (q : List (CmdWord × OpndWord)) :
    (s.accept cmd opnd q).sq.phase = s.sq.phase := rfl
@[simp] theorem State.accept_sq_pollCnt (cmd : CmdWord) (opnd : OpndWord) (q : List (CmdWord × OpndWord)) :
    (s.accept cmd opnd q).sq.pollCnt = s.sq.pollCnt := rfl
@[simp] theorem State.accept_sq_pace (cmd : CmdWord) (opnd : OpndWord) (q : List (CmdWord × OpndWord)) :
    (s.accept cmd opnd q).sq.pace = s.sq.pace := rfl
@[simp] theorem State.accept_env_cmdQueue (cmd : CmdWord) (opnd : OpndWord) (q : List (CmdWord × OpndWord)) :
    (s.accept cmd opnd q).env.cmdQueue = q := rfl
@[simp] theorem State.accept_env_inputs (cmd : CmdWord) (opnd : OpndWord) (q : List (CmdWord × OpndWord)) :
    (s.accept cmd opnd q).env.inputs = s.env.inputs := rfl
@[simp] theorem State.accept_env_gpioReady (cmd : CmdWord) (opnd : OpndWord) (q : List (CmdWord × OpndWord)) :
    (s.accept cmd opnd q).env.gpioReady = s.env.gpioReady := rfl
@[simp] theorem State.accept_env_rstN (cmd : CmdWord) (opnd : OpndWord) (q : List (CmdWord × OpndWord)) :
    (s.accept cmd opnd q).env.rstN = s.env.rstN := rfl
@[simp] theorem State.accept_env_answers (cmd : CmdWord) (opnd : OpndWord) (q : List (CmdWord × OpndWord)) :
    (s.accept cmd opnd q).env.answers = s.env.answers := rfl
@[simp] theorem State.accept_env_draws (cmd : CmdWord) (opnd : OpndWord) (q : List (CmdWord × OpndWord)) :
    (s.accept cmd opnd q).env.draws = s.env.draws := rfl
@[simp] theorem State.accept_env_pins (cmd : CmdWord) (opnd : OpndWord) (q : List (CmdWord × OpndWord)) :
    (s.accept cmd opnd q).env.pins = s.env.pins := rfl
@[simp] theorem State.accept_env_trace (cmd : CmdWord) (opnd : OpndWord) (q : List (CmdWord × OpndWord)) :
    (s.accept cmd opnd q).env.trace = s.env.trace := rfl

/-! ## lowerRsp -/

@[simp] theorem State.lowerRsp_hstate : (s.lowerRsp).hstate = s.hstate := rfl
@[simp] theorem State.lowerRsp_csAsserted : (s.lowerRsp).csAsserted = s.csAsserted := rfl
@[simp] theorem State.lowerRsp_csFault : (s.lowerRsp).csFault = s.csFault := rfl
@[simp] theorem State.lowerRsp_busy : (s.lowerRsp).busy = s.busy := rfl
@[simp] theorem State.lowerRsp_rdata : (s.lowerRsp).rdata = s.rdata := rfl
@[simp] theorem State.lowerRsp_rdataValid : (s.lowerRsp).rdataValid = s.rdataValid := rfl
@[simp] theorem State.lowerRsp_result : (s.lowerRsp).result = s.result := rfl
@[simp] theorem State.lowerRsp_status : (s.lowerRsp).status = s.status := rfl
@[simp] theorem State.lowerRsp_errInfo : (s.lowerRsp).errInfo = s.errInfo := rfl
@[simp] theorem State.lowerRsp_rspValid : (s.lowerRsp).rspValid = false := rfl
@[simp] theorem State.lowerRsp_scale : (s.lowerRsp).scale = s.scale := rfl
@[simp] theorem State.lowerRsp_handle : (s.lowerRsp).handle = s.handle := rfl
@[simp] theorem State.lowerRsp_cfg : (s.lowerRsp).cfg = s.cfg := rfl
@[simp] theorem State.lowerRsp_sq_cmdL :
    (s.lowerRsp).sq.cmdL = s.sq.cmdL := rfl
@[simp] theorem State.lowerRsp_sq_opndL :
    (s.lowerRsp).sq.opndL = s.sq.opndL := rfl
@[simp] theorem State.lowerRsp_sq_seq :
    (s.lowerRsp).sq.seq = s.sq.seq := rfl
@[simp] theorem State.lowerRsp_sq_pidx :
    (s.lowerRsp).sq.pidx = s.sq.pidx := rfl
@[simp] theorem State.lowerRsp_sq_shift :
    (s.lowerRsp).sq.shift = s.sq.shift := rfl
@[simp] theorem State.lowerRsp_sq_primPending :
    (s.lowerRsp).sq.primPending = s.sq.primPending := rfl
@[simp] theorem State.lowerRsp_sq_preq :
    (s.lowerRsp).sq.preq = s.sq.preq := rfl
@[simp] theorem State.lowerRsp_sq_phase :
    (s.lowerRsp).sq.phase = s.sq.phase := rfl
@[simp] theorem State.lowerRsp_sq_pollCnt :
    (s.lowerRsp).sq.pollCnt = s.sq.pollCnt := rfl
@[simp] theorem State.lowerRsp_sq_pace :
    (s.lowerRsp).sq.pace = s.sq.pace := rfl
@[simp] theorem State.lowerRsp_env_cmdQueue :
    (s.lowerRsp).env.cmdQueue = s.env.cmdQueue := rfl
@[simp] theorem State.lowerRsp_env_inputs :
    (s.lowerRsp).env.inputs = s.env.inputs := rfl
@[simp] theorem State.lowerRsp_env_gpioReady :
    (s.lowerRsp).env.gpioReady = s.env.gpioReady := rfl
@[simp] theorem State.lowerRsp_env_rstN :
    (s.lowerRsp).env.rstN = s.env.rstN := rfl
@[simp] theorem State.lowerRsp_env_answers :
    (s.lowerRsp).env.answers = s.env.answers := rfl
@[simp] theorem State.lowerRsp_env_draws :
    (s.lowerRsp).env.draws = s.env.draws := rfl
@[simp] theorem State.lowerRsp_env_pins :
    (s.lowerRsp).env.pins = s.env.pins := rfl
@[simp] theorem State.lowerRsp_env_trace :
    (s.lowerRsp).env.trace = s.env.trace := rfl

/-! ## takeInput -/

@[simp] theorem State.takeInput_hstate : (s.takeInput).hstate = s.hstate := rfl
@[simp] theorem State.takeInput_csAsserted : (s.takeInput).csAsserted = s.csAsserted := rfl
@[simp] theorem State.takeInput_csFault : (s.takeInput).csFault = s.csFault := rfl
@[simp] theorem State.takeInput_busy : (s.takeInput).busy = s.busy := rfl
@[simp] theorem State.takeInput_rdata : (s.takeInput).rdata = s.rdata := rfl
@[simp] theorem State.takeInput_rdataValid : (s.takeInput).rdataValid = s.rdataValid := rfl
@[simp] theorem State.takeInput_result : (s.takeInput).result = s.result := rfl
@[simp] theorem State.takeInput_status : (s.takeInput).status = s.status := rfl
@[simp] theorem State.takeInput_errInfo : (s.takeInput).errInfo = s.errInfo := rfl
@[simp] theorem State.takeInput_rspValid : (s.takeInput).rspValid = s.rspValid := rfl
@[simp] theorem State.takeInput_scale : (s.takeInput).scale = s.scale := rfl
@[simp] theorem State.takeInput_handle : (s.takeInput).handle = s.handle := rfl
@[simp] theorem State.takeInput_cfg : (s.takeInput).cfg = s.cfg := rfl
@[simp] theorem State.takeInput_sq_cmdL :
    (s.takeInput).sq.cmdL = s.sq.cmdL := rfl
@[simp] theorem State.takeInput_sq_opndL :
    (s.takeInput).sq.opndL = s.sq.opndL := rfl
@[simp] theorem State.takeInput_sq_seq :
    (s.takeInput).sq.seq = s.sq.seq := rfl
@[simp] theorem State.takeInput_sq_pidx :
    (s.takeInput).sq.pidx = s.sq.pidx := rfl
@[simp] theorem State.takeInput_sq_shift :
    (s.takeInput).sq.shift = s.sq.shift := rfl
@[simp] theorem State.takeInput_sq_primPending :
    (s.takeInput).sq.primPending = s.sq.primPending := rfl
@[simp] theorem State.takeInput_sq_preq :
    (s.takeInput).sq.preq = s.sq.preq := rfl
@[simp] theorem State.takeInput_sq_phase :
    (s.takeInput).sq.phase = s.sq.phase := rfl
@[simp] theorem State.takeInput_sq_pollCnt :
    (s.takeInput).sq.pollCnt = s.sq.pollCnt := rfl
@[simp] theorem State.takeInput_sq_pace :
    (s.takeInput).sq.pace = s.sq.pace := rfl

/-! ## ended -/

@[simp] theorem State.ended_hstate (st : Status) (e : BitVec 16) : (s.ended st e).hstate = s.hstate := rfl
@[simp] theorem State.ended_csAsserted (st : Status) (e : BitVec 16) : (s.ended st e).csAsserted = s.csAsserted := rfl
@[simp] theorem State.ended_csFault (st : Status) (e : BitVec 16) : (s.ended st e).csFault = s.csFault := rfl
@[simp] theorem State.ended_busy (st : Status) (e : BitVec 16) : (s.ended st e).busy = false := rfl
@[simp] theorem State.ended_rdata (st : Status) (e : BitVec 16) : (s.ended st e).rdata = s.rdata := rfl
@[simp] theorem State.ended_rdataValid (st : Status) (e : BitVec 16) : (s.ended st e).rdataValid = s.rdataValid := rfl
@[simp] theorem State.ended_result (st : Status) (e : BitVec 16) : (s.ended st e).result = s.result := rfl
@[simp] theorem State.ended_status (st : Status) (e : BitVec 16) : (s.ended st e).status = st := rfl
@[simp] theorem State.ended_errInfo (st : Status) (e : BitVec 16) : (s.ended st e).errInfo = e := rfl
@[simp] theorem State.ended_rspValid (st : Status) (e : BitVec 16) : (s.ended st e).rspValid = true := rfl
@[simp] theorem State.ended_scale (st : Status) (e : BitVec 16) : (s.ended st e).scale = s.scale := rfl
@[simp] theorem State.ended_handle (st : Status) (e : BitVec 16) : (s.ended st e).handle = s.handle := rfl
@[simp] theorem State.ended_cfg (st : Status) (e : BitVec 16) : (s.ended st e).cfg = s.cfg := rfl
@[simp] theorem State.ended_sq_cmdL (st : Status) (e : BitVec 16) :
    (s.ended st e).sq.cmdL = s.sq.cmdL := rfl
@[simp] theorem State.ended_sq_opndL (st : Status) (e : BitVec 16) :
    (s.ended st e).sq.opndL = s.sq.opndL := rfl
@[simp] theorem State.ended_sq_seq (st : Status) (e : BitVec 16) :
    (s.ended st e).sq.seq = [] := rfl
@[simp] theorem State.ended_sq_pidx (st : Status) (e : BitVec 16) :
    (s.ended st e).sq.pidx = s.sq.pidx := rfl
@[simp] theorem State.ended_sq_shift (st : Status) (e : BitVec 16) :
    (s.ended st e).sq.shift = s.sq.shift := rfl
@[simp] theorem State.ended_sq_primPending (st : Status) (e : BitVec 16) :
    (s.ended st e).sq.primPending = false := rfl
@[simp] theorem State.ended_sq_preq (st : Status) (e : BitVec 16) :
    (s.ended st e).sq.preq = s.sq.preq := rfl
@[simp] theorem State.ended_sq_phase (st : Status) (e : BitVec 16) :
    (s.ended st e).sq.phase = .body := rfl
@[simp] theorem State.ended_sq_pollCnt (st : Status) (e : BitVec 16) :
    (s.ended st e).sq.pollCnt = s.sq.pollCnt := rfl
@[simp] theorem State.ended_sq_pace (st : Status) (e : BitVec 16) :
    (s.ended st e).sq.pace = s.sq.pace := rfl
@[simp] theorem State.ended_env_cmdQueue (st : Status) (e : BitVec 16) :
    (s.ended st e).env.cmdQueue = s.env.cmdQueue := rfl
@[simp] theorem State.ended_env_inputs (st : Status) (e : BitVec 16) :
    (s.ended st e).env.inputs = s.env.inputs := rfl
@[simp] theorem State.ended_env_gpioReady (st : Status) (e : BitVec 16) :
    (s.ended st e).env.gpioReady = s.env.gpioReady := rfl
@[simp] theorem State.ended_env_rstN (st : Status) (e : BitVec 16) :
    (s.ended st e).env.rstN = s.env.rstN := rfl
@[simp] theorem State.ended_env_answers (st : Status) (e : BitVec 16) :
    (s.ended st e).env.answers = s.env.answers := rfl
@[simp] theorem State.ended_env_draws (st : Status) (e : BitVec 16) :
    (s.ended st e).env.draws = s.env.draws := rfl
@[simp] theorem State.ended_env_pins (st : Status) (e : BitVec 16) :
    (s.ended st e).env.pins = s.env.pins := rfl
@[simp] theorem State.ended_env_trace (st : Status) (e : BitVec 16) :
    (s.ended st e).env.trace = s.env.trace := rfl

theorem State.takeInput_env : s.takeInput.env = s.env.takeInput := rfl

@[simp] theorem State.takeInput_env_answers : s.takeInput.env.answers = s.env.answers := Env.takeInput_answers s.env

@[simp] theorem State.takeInput_env_draws : s.takeInput.env.draws = s.env.draws := Env.takeInput_draws s.env

@[simp] theorem State.takeInput_env_pins : s.takeInput.env.pins = s.env.pins := Env.takeInput_pins s.env

@[simp] theorem State.takeInput_env_trace : s.takeInput.env.trace = s.env.trace := Env.takeInput_trace s.env

/-- With no event to come, nothing lands. -/
theorem State.takeInput_of_quiet (h : s.env.inputs = []) : s.takeInput = s := by
  simp [State.takeInput, Env.takeInput, h]

/-- What is offered decides nothing of an event's effect but the queue it leaves. -/
theorem State.takeInput_withQueue (q : List (CmdWord × OpndWord)) :
    (s.withQueue q).takeInput = s.takeInput.withQueue (s.withQueue q).takeInput.env.cmdQueue := by
  cases h : s.env.inputs with
  | nil => simp [State.takeInput, Env.takeInput, State.withQueue, h]
  | cons ev later =>
    cases ev <;> simp [State.takeInput, Env.takeInput, Env.applyInput, State.withQueue, h]

@[simp] theorem State.outcome_takeInput : s.takeInput.outcome = s.outcome := by
  simp [State.outcome, Env.answer]

@[simp] theorem State.outcome_lowerRsp : s.lowerRsp.outcome = s.outcome := rfl

end

end Sys2Proof.Machine
end

