-- ==== Sys2Proof/Laws/Ops.lean ====
section
/-! SUPPORT. One lemma per shared operation that says what it can do; provers cite these instead of unfolding. -/

namespace Sys2Proof.Machine

/-! ## Sparse maps -/

section
variable {α : Type}

@[simp] theorem cellsGet_put_same (k : Nat) (v : α) (l : List (Nat × α)) :
    cellsGet k (cellsPut k v l) = some v := by
  induction l with
  | nil => simp [cellsPut, cellsGet]
  | cons c l ih => grind [cellsPut, cellsGet]

theorem cellsGet_put_other {k j : Nat} (h : j ≠ k) (v : α) (l : List (Nat × α)) :
    cellsGet j (cellsPut k v l) = cellsGet j l := by
  induction l with
  | nil => simp [cellsPut, cellsGet, h]
  | cons c l ih => grind [cellsPut, cellsGet]

@[simp] theorem cellsGet_erase_same (k : Nat) (l : List (Nat × α)) :
    cellsGet k (cellsErase k l) = none := by
  induction l with
  | nil => rfl
  | cons c l ih => grind [cellsErase, cellsGet]

theorem cellsGet_erase_other {k j : Nat} (h : j ≠ k) (l : List (Nat × α)) :
    cellsGet j (cellsErase k l) = cellsGet j l := by
  induction l with
  | nil => rfl
  | cons c l ih => grind [cellsErase, cellsGet]

/-- A key of an erased map is a key of the map. -/
theorem mem_keys_cellsErase {k j : Nat} {l : List (Nat × α)}
    (h : j ∈ (cellsErase k l).map Prod.fst) : j ∈ l.map Prod.fst := by
  induction l with
  | nil => exact h
  | cons c l ih => grind [cellsErase]

/-- A key of a written map is the written key or a key of the map. -/
theorem mem_keys_cellsPut {k j : Nat} {v : α} {l : List (Nat × α)}
    (h : j ∈ (cellsPut k v l).map Prod.fst) : j = k ∨ j ∈ l.map Prod.fst := by
  induction l with
  | nil => simpa [cellsPut] using h
  | cons c l ih => grind [cellsPut]

/-- Erasing keeps the canonical form. -/
theorem cellsErase_wf (k : Nat) {l : List (Nat × α)} (h : cellsWf l) : cellsWf (cellsErase k l) := by
  induction l with
  | nil => exact h
  | cons c l ih =>
    simp only [cellsWf, List.map_cons, List.pairwise_cons] at h ih ⊢
    simp only [cellsErase]
    split
    · exact ih h.2
    · simp only [List.map_cons, List.pairwise_cons]
      exact ⟨fun j hj => h.1 j (mem_keys_cellsErase hj), ih h.2⟩

/-- Writing keeps the canonical form. -/
theorem cellsPut_wf (k : Nat) (v : α) {l : List (Nat × α)} (h : cellsWf l) :
    cellsWf (cellsPut k v l) := by
  induction l with
  | nil => simp [cellsWf, cellsPut]
  | cons c l ih =>
    simp only [cellsWf, List.map_cons, List.pairwise_cons] at h ih ⊢
    simp only [cellsPut]
    split
    · next hk =>
      simp only [List.map_cons, List.pairwise_cons]
      refine ⟨fun j hj => ?_, h⟩
      rcases List.mem_cons.mp hj with rfl | hj
      · exact hk
      · exact lt_trans hk (h.1 j hj)
    · split
      · next hk => simpa [← hk] using h
      · next hlt hne =>
        simp only [List.map_cons, List.pairwise_cons]
        refine ⟨fun j hj => ?_, ih h.2⟩
        rcases mem_keys_cellsPut hj with rfl | hj
        · omega
        · exact h.1 j hj

/-- Writing back what is already there changes a canonical map in nothing. -/
theorem cellsPut_get_self {k : Nat} {v : α} {l : List (Nat × α)} (h : cellsWf l)
    (hg : cellsGet k l = some v) : cellsPut k v l = l := by
  induction l with
  | nil => simp [cellsGet] at hg
  | cons c l ih =>
    obtain ⟨j, w⟩ := c
    simp only [cellsWf, List.map_cons, List.pairwise_cons] at h ih
    simp only [cellsGet] at hg
    by_cases hk : k = j
    · subst hk; simp_all [cellsPut]
    · simp only [hk, if_false] at hg
      have hmem : k ∈ l.map Prod.fst := by
        clear ih h
        induction l with
        | nil => simp [cellsGet] at hg
        | cons c l ih => grind [cellsGet]
      have := h.1 k hmem
      simp [cellsPut, hk, Nat.not_lt.mpr (Nat.le_of_lt this), ih h.2 hg]

end

/-! ## The pins -/

/-- A primitive's outcome keeps the canonical form of what is known of the pins. -/
theorem PinBank.apply_wf {b : PinBank} (h : b.wf) (p : Request) (o : PrimOutcome) :
    (b.apply p o).wf := by
  obtain ⟨hm, hl⟩ := h
  unfold PinBank.apply
  split
  · exact ⟨hm, hl⟩
  · split
    · exact ⟨cellsErase_wf _ hm, hl⟩
    · exact ⟨cellsPut_wf _ _ hm, hl⟩
  · split
    · exact ⟨hm, cellsErase_wf _ hl⟩
    · exact ⟨hm, cellsPut_wf _ _ hl⟩
  · exact ⟨hm, hl⟩

/-- A block reset keeps the canonical form. -/
theorem PinBank.forgetLevels_wf {b : PinBank} (h : b.wf) (c : HandleConfig) : (b.forgetLevels c).wf :=
  ⟨h.1, cellsErase_wf _ (cellsErase_wf _ (cellsErase_wf _ (cellsErase_wf _ (cellsErase_wf _
    (cellsErase_wf _ h.2)))))⟩

/-- A primitive that is no `setPinLevel` of pin `p` leaves its level. -/
theorem PinBank.apply_level_other (b : PinBank) (r : Request) (o : PrimOutcome) (p : PinId)
    (h : r.op = .setPinLevel → p ≠ r.pin) : (b.apply r o).level p = b.level p := by
  unfold PinBank.apply PinBank.level
  split
  · rfl
  · split <;> rfl
  · next hop =>
    have hne : p.toNat ≠ r.pin.toNat := fun e => h hop (BitVec.eq_of_toNat_eq e)
    split
    · exact cellsGet_erase_other hne _
    · exact cellsGet_put_other hne _ _
  · rfl

/-- An OK `SETL(p, l)` makes the level known. -/
theorem PinBank.apply_setl_ok (b : PinBank) (p : PinId) (l : Level) {o : PrimOutcome}
    (h : o.failed = false) : (b.apply (setl p l) o).level p = some l := by
  simp [PinBank.apply, setl, PinBank.level, h]

/-- Block reset keeps the canonical form. -/
theorem State.pinsAfterReset_wf {s : State} (h : s.env.pins.wf) : s.pinsAfterReset.wf := by
  unfold State.pinsAfterReset
  split
  · exact PinBank.forgetLevels_wf (PinBank.apply_wf h _ _) _
  · exact h

/-- With no command running block reset changes nothing that is known of the pins. -/
theorem State.pinsAfterReset_of_idle {s : State} (h : s.busy = false) :
    s.pinsAfterReset = s.env.pins := by
  simp [State.pinsAfterReset, h]

/-! ## Outcomes -/

/-- An outcome is OK with a level, or it failed with one of the two causes. -/
theorem PrimOutcome.cases_failed (o : PrimOutcome) :
    (∃ l, o = .ok l ∧ o.failed = false) ∨ (o = .lineFail ∧ o.failed = true) ∨
      (o = .timeout ∧ o.failed = true) := by
  cases o with
  | ok l => exact .inl ⟨l, rfl, rfl⟩
  | lineFail => exact .inr (.inl ⟨rfl, rfl⟩)
  | timeout => exact .inr (.inr ⟨rfl, rfl⟩)

/-! ## Meanings, unfolded once -/

theorem exec_init (s : State) (budget : BitVec 16) (cs dr rst dout din sclk : PinId)
    (clksel : BitVec 4) :
    exec (.init budget cs dr rst dout din sclk clksel) s =
      .next (if s.sq.primPending then initResume s
        else initBegin ⟨cs, dr, rst, dout, din, sclk, clksel, budget⟩ s) := rfl

theorem exec_teardown (s : State) :
    exec .teardown s = .next (if s.sq.primPending then teardownResume s else teardownBegin s) := rfl

theorem exec_assertCs (s : State) :
    exec .assertCs s = .next (if s.sq.primPending then assertCsResume s else assertCsBegin s) := rfl

theorem exec_deassertCs (s : State) :
    exec .deassertCs s =
      .next (if s.sq.primPending then deassertCsResume s else deassertCsBegin s) := rfl

theorem exec_readReg (a : RegAddr) (s : State) :
    exec (.readReg a) s =
      .next (if s.sq.primPending then s.transactionResume State.commitRead State.clearRead
        else readRegBegin a s) := rfl

theorem exec_writeReg (a : RegAddr) (v : Word16) (s : State) :
    exec (.writeReg a v) s =
      .next (if s.sq.primPending then s.transactionResume (fun t => t) (fun t => t)
        else writeRegBegin a v s) := rfl

theorem exec_scale (cat : BitVec 3) (r : Word16) (s : State) :
    exec (.scale cat r) s = .next (s.completeScale (scaleValue s.scale r cat)) := rfl

/-- A completion is what claims write out as `ended`. -/
theorem State.complete_eq_ended (st : Status) (c : Cause) (k : BitVec 8) (s : State) :
    s.complete st c k = s.ended st (errInfoWord c k) := rfl

/-- Everything INIT does when its primitive in flight has its outcome. -/
theorem initResume_cases (s : State) :
    (∃ l, s.outcome = .ok l ∧ s.sq.seq = [] ∧
      initResume s = { s.settle with hstate := .ready }.complete .ok .none 0) ∨
    (∃ l p rest, s.outcome = .ok l ∧ s.sq.seq = p :: rest ∧
      initResume s = s.settle.issue p rest (s.sq.pidx + 1) .body) ∨
    (s.outcome.failed = true ∧ initResume s =
      (s.settle.noteCsHigh s.outcome).complete .initError (causeOf s.outcome) s.sq.pidx) := by
  cases ho : s.outcome with
  | ok l =>
    cases hs : s.sq.seq with
    | nil => exact .inl ⟨l, rfl, rfl, by simp [initResume, ho, hs]⟩
    | cons p rest => exact .inr (.inl ⟨l, p, rest, rfl, rfl, by simp [initResume, ho, hs]⟩)
  | lineFail => exact .inr (.inr ⟨rfl, by simp [initResume, ho, causeOf]⟩)
  | timeout => exact .inr (.inr ⟨rfl, by simp [initResume, ho, causeOf]⟩)

/-! ## Sequences -/

/-- Everything a transaction does when its primitive in flight has its outcome. -/
theorem State.transactionResume_cases (commit abort : State → State) (s : State) :
    (∃ c k, s.sq.phase = .cleanup c k ∧ s.transactionResume commit abort =
      (abort { s.settle.noteRelease s.outcome with hstate := .ready }).complete .busError c k) ∨
    (s.sq.phase = .release ∧ s.transactionResume commit abort =
      (commit { s.settle.noteRelease s.outcome with hstate := .ready }).complete .ok .none 0) ∨
    (∃ l, s.sq.phase = .body ∧ s.outcome = .ok l ∧
      s.transactionResume commit abort = (s.settle.absorb l).advance) ∨
    (s.sq.phase = .body ∧ s.outcome.failed = true ∧ s.transactionResume commit abort =
      s.settle.issueRelease (s.sq.pidx + 1) (.cleanup (causeOf s.outcome) s.sq.pidx)) := by
  cases hp : s.sq.phase with
  | cleanup c k => exact .inl ⟨c, k, rfl, by simp [State.transactionResume, hp]⟩
  | release => exact .inr (.inl ⟨rfl, by simp [State.transactionResume, hp]⟩)
  | body =>
    cases ho : s.outcome with
    | ok l => exact .inr (.inr (.inl ⟨l, rfl, rfl, by simp [State.transactionResume, hp, ho]⟩))
    | lineFail =>
      exact .inr (.inr (.inr ⟨rfl, rfl, by simp [State.transactionResume, hp, ho, causeOf]⟩))
    | timeout =>
      exact .inr (.inr (.inr ⟨rfl, rfl, by simp [State.transactionResume, hp, ho, causeOf]⟩))

/-- The next primitive of a transaction: one of the body while more than the release is left, then the
release. -/
theorem State.advance_cases (s : State) :
    (∃ p q rest, s.sq.seq = p :: q :: rest ∧
      s.advance = s.issue p (q :: rest) (s.sq.pidx + 1) .body) ∨
    (s.sq.seq.length ≤ 1 ∧ s.advance = s.issueRelease (s.sq.pidx + 1) .release) := by
  unfold State.advance
  split
  · next p q rest h => exact .inl ⟨p, q, rest, h, rfl⟩
  · next h =>
    refine .inr ⟨?_, rfl⟩
    match hs : s.sq.seq with
    | [] => simp
    | [_] => simp
    | p :: q :: rest => exact absurd hs (h p q rest)

@[simp] theorem sendWord_length (h : HandleConfig) (w : Word16) : (sendWord h w).length = 48 := rfl

@[simp] theorem receiveWord_length (h : HandleConfig) : (receiveWord h).length = 48 := rfl

@[simp] theorem readSequence_length (h : HandleConfig) (a : RegAddr) :
    (readSequence h a).length = 98 := rfl

@[simp] theorem writeSequence_length (h : HandleConfig) (a : RegAddr) (v : Word16) :
    (writeSequence h a v).length = 98 := rfl

/-- The body of a READ_REG is its first 97 primitives; the release is the last. -/
theorem readSequence_eq (h : HandleConfig) (a : RegAddr) :
    readSequence h a =
      (setl h.pinCs .low :: (sendWord h (reqWord .read a) ++ receiveWord h)) ++
        [setl h.pinCs .high] := by
  simp [readSequence]

/-- The body of a WRITE_REG is its first 97 primitives; the release is the last. -/
theorem writeSequence_eq (h : HandleConfig) (a : RegAddr) (v : Word16) :
    writeSequence h a v =
      (setl h.pinCs .low :: (sendWord h (reqWord .write a) ++ sendWord h v)) ++
        [setl h.pinCs .high] := by
  simp [writeSequence]

/-! ## Categories -/

@[simp] theorem categoryOf_code (c : Category) : categoryOf c.code = some c := by
  cases c <;> rfl

/-- Codes 5, 6 and 7, and only they, have no category. -/
theorem categoryOf_eq_none_iff (cat : BitVec 3) : categoryOf cat = none ↔ 5 ≤ cat.toNat := by
  revert cat; decide

end Sys2Proof.Machine
end

