-- ==== Sys2Proof/Laws/PerInstr.lean ====
section
/-! SUPPORT. One statement per command, as syntax: its encoding matches its row of the opcode table. -/

namespace Sys2Proof.Laws.TableRow

/-- The command word of `i` matches the row of rule R105 that names it. -/
def Statement (i : Instr) : Prop := (encode i).1 &&& (tableRow i).2 = (tableRow i).1

theorem init (budget : BitVec 16) (cs dr rst dout din sclk : PinId) (clksel : BitVec 4) :
    Statement (.init budget cs dr rst dout din sclk clksel) := by
  refine BitVec.eq_of_getLsbD_eq fun j hj => ?_
  simp only [encode, tableRow, BitVec.getLsbD_and, getLsbD_packCmd]
  interval_cases j <;> simp

theorem teardown : Statement .teardown := by
  unfold Statement; decide

theorem assertCs : Statement .assertCs := by
  unfold Statement; decide

theorem deassertCs : Statement .deassertCs := by
  unfold Statement; decide

theorem readReg (addr : RegAddr) : Statement (.readReg addr) := by
  refine BitVec.eq_of_getLsbD_eq fun j hj => ?_
  simp only [encode, tableRow, BitVec.getLsbD_and, getLsbD_packCmd]
  interval_cases j <;> simp

theorem writeReg (addr : RegAddr) (value : Word16) : Statement (.writeReg addr value) := by
  refine BitVec.eq_of_getLsbD_eq fun j hj => ?_
  simp only [encode, tableRow, BitVec.getLsbD_and, getLsbD_packCmd]
  interval_cases j <;> simp

theorem scale (cat : BitVec 3) (raw : Word16) : Statement (.scale cat raw) := by
  refine BitVec.eq_of_getLsbD_eq fun j hj => ?_
  simp only [encode, tableRow, BitVec.getLsbD_and, getLsbD_packCmd]
  interval_cases j <;> simp

theorem scaleRd (cat : BitVec 3) : Statement (.scaleRd cat) := by
  refine BitVec.eq_of_getLsbD_eq fun j hj => ?_
  simp only [encode, tableRow, BitVec.getLsbD_and, getLsbD_packCmd]
  interval_cases j <;> simp

theorem setLsb (cat : BitVec 3) (value : F64) : Statement (.setLsb cat value) := by
  refine BitVec.eq_of_getLsbD_eq fun j hj => ?_
  simp only [encode, tableRow, BitVec.getLsbD_and, getLsbD_packCmd]
  interval_cases j <;> simp

theorem setTempOffset (value : F64) : Statement (.setTempOffset value) := by
  change packCmd 0 0 0 0 0x9 &&& 0xFFFFFFFF = 0x00000009
  decide

end Sys2Proof.Laws.TableRow
end

