-- ==== Sys2Proof/Laws/Step.lean ====
section
/-! SUPPORT. Everything a step can do, said once. -/

namespace Sys2Proof.Machine

/-- A step is one of six things: held in reset; going on with the latched command, or completing it as
illegal; idle; accepting the command on the port and running it, or completing it as illegal. -/
theorem step_cases {s t : State} (h : step s = .next t) :
    (s.takeInput.env.rstN = false ∧ t = s.takeInput.holdReset) ∨
    (s.takeInput.env.rstN = true ∧ s.busy = true ∧ ∃ i, decode s.sq.cmdL s.sq.opndL = .command i ∧
      exec i s.takeInput.lowerRsp = .next t) ∨
    (s.takeInput.env.rstN = true ∧ s.busy = true ∧ ∃ c, decode s.sq.cmdL s.sq.opndL = .illegal c ∧
      t = s.takeInput.lowerRsp.completeIllegal c) ∨
    (s.takeInput.env.rstN = true ∧ s.busy = false ∧ s.takeInput.env.cmdQueue = [] ∧
      t = s.takeInput.lowerRsp) ∨
    (s.takeInput.env.rstN = true ∧ s.busy = false ∧ ∃ cmd opnd rest i,
      s.takeInput.env.cmdQueue = (cmd, opnd) :: rest ∧ decode cmd opnd = .command i ∧
      exec i (s.takeInput.accept cmd opnd rest) = .next t) ∨
    (s.takeInput.env.rstN = true ∧ s.busy = false ∧ ∃ cmd opnd rest c,
      s.takeInput.env.cmdQueue = (cmd, opnd) :: rest ∧ decode cmd opnd = .illegal c ∧
      t = (s.takeInput.accept cmd opnd rest).completeIllegal c) := by
  unfold step stepBlock runLatched at h
  split at h
  · next hr => cases h; exact .inl ⟨hr, rfl⟩
  · next hr =>
    simp only [Bool.not_eq_false] at hr
    split at h
    · next hb =>
      split at h
      · next i hd => exact .inr (.inl ⟨hr, hb, i, hd, h⟩)
      · next c hd => cases h; exact .inr (.inr (.inl ⟨hr, hb, c, hd, rfl⟩))
    · next hb =>
      simp only [Bool.not_eq_true] at hb
      split at h
      · next hq => cases h; exact .inr (.inr (.inr (.inl ⟨hr, hb, hq, rfl⟩)))
      · next cmd opnd rest hq =>
        split at h
        · next i hd =>
          exact .inr (.inr (.inr (.inr (.inl ⟨hr, hb, cmd, opnd, rest, i, hq, hd, h⟩))))
        · next c hd =>
          cases h
          exact .inr (.inr (.inr (.inr (.inr ⟨hr, hb, cmd, opnd, rest, c, hq, hd, rfl⟩))))

/-- Two steps of a run are a step and then the rest of the run. -/
theorem State.after_succ {s t : State} (n : Nat) (h : step s = .next t) :
    s.after (n + 1) = t.after n := by
  have hc : Sys2Proof.core.step s = .next t := h
  simp only [State.after, Host.Core.run]
  rw [hc]

@[simp] theorem State.after_zero (s : State) : s.after 0 = .next s := rfl

/-- A step of a busy block with no input event to come is exec of the latched command. -/
theorem step_busy {s : State} {i : Instr} (hq : s.env.inputs = []) (hr : s.env.rstN = true)
    (hb : s.busy = true) (hd : decode s.sq.cmdL s.sq.opndL = .command i) :
    step s = exec i s.lowerRsp := by
  have hs : s.takeInput = s := State.takeInput_of_quiet s hq
  unfold step stepBlock runLatched
  rw [hs, hr, hb, State.lowerRsp_sq_cmdL, State.lowerRsp_sq_opndL, hd]
  rfl

/-- The step that accepts an offered command is exec of it at the accepted state. -/
theorem step_accept {s : State} {i : Instr} {cmd : CmdWord} {opnd : OpndWord}
    {rest : List (CmdWord × OpndWord)} (hq : s.env.inputs = []) (hr : s.env.rstN = true)
    (hb : s.busy = false) (hp : s.env.cmdQueue = (cmd, opnd) :: rest)
    (hd : decode cmd opnd = .command i) : step s = exec i (s.accept cmd opnd rest) := by
  have hs : s.takeInput = s := State.takeInput_of_quiet s hq
  unfold step stepBlock runLatched
  rw [hs, hr, hb, hp]
  simp only [State.accept_sq_cmdL, State.accept_sq_opndL, hd]
  rfl

/-- Where a running command stands depends on HSTATE, CS_ASSERTED, the handle configuration, the
parameters and the sequencer only: not on the environment, the data registers or RSP_VALID. -/
theorem Running.congr {s t : State} {i : Instr} (h1 : t.hstate = s.hstate)
    (h2 : t.csAsserted = s.csAsserted) (h3 : t.handle = s.handle) (h4 : t.cfg = s.cfg)
    (h5 : t.sq = s.sq) (h : Running s i) : Running t i := by
  have hr : ∀ k, ReleaseInFlight k t ↔ ReleaseInFlight k s := fun k =>
    ⟨fun ⟨a, b, c, d⟩ => ⟨by rw [← h5, a], by rw [← h5, b, h3], by rw [← h5, c], by rw [← h2, d]⟩,
     fun ⟨a, b, c, d⟩ => ⟨by rw [h5, a], by rw [h5, b, h3], by rw [h5, c], by rw [h2, d]⟩⟩
  have ht : ∀ l, TransactionAt l t ↔ TransactionAt l s := fun l => by
    unfold TransactionAt
    rw [h5, h2]
    simp only [hr]
  cases i <;>
    first
      | exact h.elim
      | simpa [Running, ht, hr, h1, h2, h3, h4, h5, State.addrValid] using h

/-- The input event that lands before a step does not move a running command. -/
theorem Running.takeInput {s : State} {i : Instr} (h : Running s i) : Running s.takeInput i :=
  Running.congr (s := s) rfl rfl rfl rfl rfl h

/-- Taking RSP_VALID back does not move a running command. -/
theorem Running.lowerRsp {s : State} {i : Instr} (h : Running s i) : Running s.lowerRsp i :=
  Running.congr (s := s) rfl rfl rfl rfl rfl h

end Sys2Proof.Machine
end

