-- ==== Sys2Proof/Tests/Slice0.lean ====
section
/-! SUPPORT. Tests: well-formedness, words of the opcode table, one-step vectors of spec/95_test_vectors.md, and
for every statement with hypotheses a concrete state and operands that meet them. -/

namespace Sys2Proof.Tests

open Sys2Proof Sys2Proof.Machine

/-! ## Ill-formed commands (R108) -/

theorem test_wf_conventional_init : (Instr.init 100 10 6 5 12 13 14 0).wellFormed = true := by decide

theorem test_wf_refuses_duplicate_pin : (Instr.init 100 10 10 5 12 13 14 0).wellFormed = false := by
  decide

theorem test_wf_refuses_clock : (Instr.init 100 10 6 5 12 13 14 1).wellFormed = false := by decide

theorem test_wf_refuses_zero_budget : (Instr.init 0 10 6 5 12 13 14 0).wellFormed = false := by decide

theorem test_wf_refuses_odd_read : (Instr.readReg 0x05).wellFormed = false := by decide

theorem test_wf_refuses_high_write : (Instr.writeReg 0x80 0).wellFormed = false := by decide

theorem test_wf_refuses_scale_category : (Instr.scale 5 0).wellFormed = false := by decide

theorem test_wf_refuses_scale_rd_category : (Instr.scaleRd 7).wellFormed = false := by decide

theorem test_wf_refuses_set_lsb_category : (Instr.setLsb 6 0).wellFormed = false := by decide

/-! ## Words written out from the spec's encodings (R101, R103, R105; vectors V30) -/

/-- V30-25 (IMM16 = 0x0064, OP = 1) and V30-28. -/
theorem test_decode_init :
    decode 0x00640001 0x00000E0D0C05060A = .command (.init 100 10 6 5 12 13 14 0) ∧
    decode 0xFFFF0001 0x000FFFFFFFFFFFFF =
      .command (.init 65535 255 255 255 255 255 255 15) := by decide

theorem test_decode_teardown : decode 0x00000002 0x5 = .command .teardown := by decide

theorem test_decode_assert_cs : decode 0x00000003 0 = .command .assertCs := by decide

theorem test_decode_deassert_cs : decode 0x00000004 0 = .command .deassertCs := by decide

/-- V30-7 (ADDR = 0x06, OP = 5). -/
theorem test_decode_read_reg : decode 0x00000605 0x7 = .command (.readReg 0x06) := by decide

/-- V30-10 (IMM16 = 0x1234, ADDR = 0x64, OP = 6). -/
theorem test_decode_write_reg : decode 0x12346406 0 = .command (.writeReg 0x64 0x1234) := by decide

/-- V30-12 to V30-14. -/
theorem test_decode_scale : decode 0x10000017 0 = .command (.scale 1 0x1000) ∧
    decode 0x80000007 0 = .command (.scale 0 0x8000) ∧
    decode 0x00000077 0 = .command (.scale 7 0x0000) := by decide

/-- V30-16, V30-17. -/
theorem test_decode_scale_rd : decode 0x00000097 0 = .command (.scaleRd 1) ∧
    decode 0x000000F7 0 = .command (.scaleRd 7) := by decide

/-- V30-19, V30-20. -/
theorem test_decode_set_lsb : decode 0x00000018 0x3F847AE147AE147B =
      .command (.setLsb 1 0x3F847AE147AE147B) ∧
    decode 0x00000078 0 = .command (.setLsb 7 0) := by decide

/-- V30-23. -/
theorem test_decode_set_temp_offset : decode 0x00000009 0x4039000000000000 =
    .command (.setTempOffset 0x4039000000000000) := by decide

/-- V30-1 to V30-4. -/
theorem test_decode_reserved_opcode :
    ([0x00000000, 0x0000000A, 0x0000000F, 0xFFFFFFFF].all fun w =>
      decode w 0 = .illegal .reservedOpcode) = true := by decide

/-- V30-5, 6, 8, 9, 11, 15, 18, 21, 22, 24 and 27. -/
theorem test_decode_reserved_field :
    ([0x00000012, 0x00010002, 0x00000615, 0x00010605, 0x12346416, 0x00000107, 0x00010097,
      0x00000088, 0x00010008, 0x00000109, 0x00000011].all fun w =>
      decode w 0 = .illegal .nonzeroReservedField) = true := by decide

/-- V30-26 (OPND bit 52). -/
theorem test_decode_init_operand_bit :
    decode 0x00640001 0x0010000000000000 = .illegal .nonzeroReservedField := by decide

/-- The host's numbering of the table's words: CMD in bits 31..0, OPND above (R100, R106). -/
theorem test_decode_table_word : decodeTableWord 32 0x12346406 = some (.writeReg 0x64 0x1234) ∧
    decodeTableWord 96 0x00000E0D0C05060A00640001 = some (.init 100 10 6 5 12 13 14 0) := by decide

/-! ## Small states -/

/-- The conventional pins and budget (spec/95_test_vectors.md section 0). -/
def conv : HandleConfig := ⟨10, 6, 5, 12, 13, 14, 0, 100⟩

/-- The default instance at 4 MHz. -/
def tCfg : Config := { Config.default with fBlk := 4000000 }

/-- After reset. -/
def tReset : State := { State.reset with cfg := tCfg }

/-- READY, chip-select HIGH, a valid RDATA = 0x1234. -/
def tReady : State :=
  { tReset with
    hstate := .ready
    handle := conv
    rdata := 0x1234
    rdataValid := true
    env := { tReset.env with pins := { modes := [], levels := [(10, true)] } } }

/-- READY in the window of ASSERT_CS. -/
def tHeld : State :=
  { tReady with
    csAsserted := true
    env := { tReady.env with pins := { modes := [], levels := [(10, false)] } } }

/-- CLOSED. -/
def tClosed : State := { tReady with hstate := .closed }

/-- The host offers `i` and the collaborator will answer `as`. -/
def offer (s : State) (i : Instr) (as : List Answer) : State :=
  { s with env := { s.env with cmdQueue := [encode i], answers := as } }

/-- The event `ev` lands before the next step. -/
def landing (ev : Input) (s : State) : State := { s with env := { s.env with inputs := [ev] } }

/-- `i` is running, primitive `k` of `l` in flight, and the collaborator will answer `as`. -/
def running (s : State) (i : Instr) (l : List Request) (k : Nat) (ph : SeqPhase)
    (as : List Answer) : State :=
  { s with
    busy := true
    sq := { s.sq with
      cmdL := (encode i).1
      opndL := (encode i).2
      seq := l.drop (k + 1)
      pidx := BitVec.ofNat 8 k
      primPending := true
      preq := l.getD k (getl 0)
      phase := ph }
    env := { s.env with answers := as } }

/-- The conventional INIT. -/
def initConv : Instr := .init 100 10 6 5 12 13 14 0

/-- INIT with primitive `k` in flight. -/
def initAt (k : Nat) (as : List Answer) : State :=
  running { tReset with
    handle := conv
    env := { tReset.env with pins := { modes := [], levels := [(10, true)] } } }
    initConv (initSequence conv) k .body as

/-- READ_REG 0x06 with primitive `k` of its body in flight. -/
def readingAt (k : Nat) (as : List Answer) : State :=
  running { tHeld with hstate := .transacting, csAsserted := decide (k ≠ 0) }
    (.readReg 0x06) (readSequence conv 0x06) k .body as

/-- WRITE_REG 0x64, 5 with primitive `k` of its body in flight. -/
def writingAt (k : Nat) (as : List Answer) : State :=
  running { tHeld with hstate := .transacting, csAsserted := decide (k ≠ 0) }
    (.writeReg 0x64 5) (writeSequence conv 0x64 5) k .body as

/-- A running `i` whose release is in flight as primitive `k`. -/
def releasing (s : State) (i : Instr) (k : Nat) (ph : SeqPhase) (as : List Answer) : State :=
  let t := running { s with csAsserted := false } i [] k ph as
  { t with sq := { t.sq with preq := setl 10 true } }

/-- READ_REG 0x06 with its release in flight, 0x1000 shifted in. -/
def readReleasing (ph : SeqPhase) (k : Nat) (as : List Answer) : State :=
  let t := releasing { tHeld with hstate := .transacting } (.readReg 0x06) k ph as
  { t with sq := { t.sq with shift := 0x1000 } }

/-- LSB[1] = 0.01, LSB[2] = 0.1, TEMP_OFFSET = 25.0. -/
def tScale : ScaleFile :=
  { ScaleFile.reset with
    gyro := 0x3F847AE147AE147B
    temp := 0x3FB999999999999A
    lsbValid := 0b00110
    tempOffset := 0x4039000000000000
    ofsValid := true }

/-- The state a step leads to. -/
def stepTo (s : State) : State :=
  match step s with
  | .next t => t
  | .fault _ => s
  | .refused _ => s

/-! ## One step of each command -/

/-- V42-2: GPIO_READY = 0. -/
theorem test_init_gpio_not_ready :
    let t := stepTo (offer { tReset with env := { tReset.env with gpioReady := false } } initConv [])
    t.status = .initError ∧ t.errInfo = 0x0010 ∧ t.hstate = .uninitialized ∧ t.env.trace = [] ∧
      t.obs 0x0C = 0 := by decide +kernel

/-- V42-8: primitive 8 answers LINE_FAIL. -/
theorem test_init_line_fail :
    let t := stepTo (initAt 8 [answerFail])
    t.status = .initError ∧ t.errInfo = 0x0802 ∧ t.hstate = .uninitialized ∧ t.env.trace = [] ∧
      t.obs 0x0C = 0x00000E0D0C05060A ∧ t.obs 0x0D = 0x64 := by decide +kernel

/-- V42-15: the release. -/
theorem test_teardown_releases :
    let t := stepTo (offer tHeld .teardown [])
    t.env.trace = [setl 10 true] ∧ t.csAsserted = false ∧
      t.busy = true := by decide +kernel

/-- V42-16: the release answers LINE_FAIL. -/
theorem test_teardown_failed_release :
    let t := stepTo (releasing tHeld .teardown 0 .release [answerFail])
    t.hstate = .closed ∧ t.csFault = true ∧ t.status = .ok ∧ t.errInfo = 0 := by decide +kernel

/-- V40-36. -/
theorem test_assert_cs_twice :
    let t := stepTo (offer tHeld .assertCs [])
    t.status = .precondition ∧ t.errInfo = 0x0020 ∧ t.csAsserted = true ∧ t.env.trace = [] := by
  decide +kernel

/-- V40-38: both answer LINE_FAIL; the step that takes the release's outcome. -/
theorem test_assert_cs_failed_release :
    let t := stepTo (releasing tReady .assertCs 1 (.cleanup .primLineFail 0) [answerFail])
    t.status = .busError ∧ t.errInfo = 0x0002 ∧ t.csAsserted = false ∧ t.csFault = true := by
  decide +kernel

/-- V40-42: the release is issued although CS_ASSERTED = 0. -/
theorem test_deassert_cs_issues_release :
    (stepTo (offer tReady .deassertCs [])).env.trace = [setl 10 true] := by decide +kernel

/-- V40-43: the release times out. -/
theorem test_deassert_cs_timeout :
    let t := stepTo (releasing tHeld .deassertCs 0 .release [answerNever])
    t.status = .ok ∧ t.errInfo = 0 ∧ t.csAsserted = false ∧ t.csFault = true := by decide +kernel

/-- V40-30: the address check comes before the chip-select check. -/
theorem test_read_reg_invalid_address :
    let t := stepTo (offer tHeld (.readReg 0x03) [])
    t.status = .invalidAddress ∧ t.errInfo = 0 ∧ t.rdata = 0 ∧ t.rdataValid = false ∧
      t.csAsserted = true ∧ t.env.trace = [] := by decide +kernel

/-- V40-18: the release of a whole read times out. -/
theorem test_read_reg_failed_release :
    let t := stepTo (readReleasing .release 97 [answerNever])
    t.status = .ok ∧ t.errInfo = 0 ∧ t.rdata = 0x1000 ∧ t.rdataValid = true ∧ t.csFault = true ∧
      t.hstate = .ready := by decide +kernel

/-- V40-2, k = 17: DOUT carries bit 10 of REQ = 0xE400. -/
theorem test_write_reg_request_bit :
    (stepTo (writingAt 16 [answerOk false])).sq.preq = setl 12 true := by decide +kernel

/-- V40-20: k = 1 times out and the release is next. -/
theorem test_write_reg_timeout :
    let t := stepTo (writingAt 1 [answerNever])
    t.sq.preq = setl 10 true ∧ t.sq.phase = .cleanup .primTimeout 1 ∧ t.csAsserted = false ∧
      t.rdata = 0x1234 := by decide +kernel

/-- V41-37 (with V41-1): the datapath runs in CLOSED. -/
theorem test_scale_gyroscope :
    let t := stepTo (offer { tClosed with scale := tScale } (.scale 1 0x1000) [])
    t.result = 0x40447AE147AE147B ∧ t.status = .ok ∧ t.env.trace = [] := by decide +kernel

/-- V41-19: the temperature path rounds twice. -/
theorem test_scale_temperature_not_fused :
    (stepTo (offer { tReset with scale := tScale } (.scale 2 0xFF06) [])).result = 0 := by
  decide +kernel

/-- V41-32: the category check comes before NO_RDATA. -/
theorem test_scale_rd_category_first :
    let t := stepTo (offer tReset (.scaleRd 6) [])
    t.status = .invalidCategory ∧ t.errInfo = 0 ∧ t.result = 0 := by decide +kernel

/-- V41-33. -/
theorem test_scale_rd_gyroscope :
    let t := stepTo (offer { tReady with scale := tScale, rdata := 0x1000 } (.scaleRd 1) [])
    t.result = 0x40447AE147AE147B ∧ t.status = .ok ∧ t.rdata = 0x1000 := by decide +kernel

/-- V41-34: nothing is stored. -/
theorem test_set_lsb_category :
    let t := stepTo (offer tReset (.setLsb 5 0x3FF0000000000000) [])
    t.status = .invalidCategory ∧ t.scale = ScaleFile.reset := by decide +kernel

/-- V41-35: a NaN is stored as it is. -/
theorem test_set_lsb_stores_pattern :
    let t := stepTo (offer tReset (.setLsb 1 0xFFF0000000000001) [])
    t.obs 0x06 = 0xFFF0000000000001 ∧ t.obs 0x0B = 0x02 ∧ t.status = .ok := by decide +kernel

/-- V41-36. -/
theorem test_set_temp_offset :
    let t := stepTo (offer tClosed (.setTempOffset 0x8000000000000000) [])
    t.obs 0x0A = 0x8000000000000000 ∧ t.scale.ofsValid = true ∧ t.status = .ok := by decide +kernel

/-- V60-6: an illegal word. -/
theorem test_illegal_word :
    let t := stepTo { tReady with env := { tReady.env with cmdQueue := [(0x00000012, 0)] } }
    t.status = .illegalCommand ∧ t.errInfo = 0x0031 ∧ t.rdata = 0x1234 ∧ t.rdataValid = true := by
  decide +kernel

/-- V70-2: reset in the middle of a READ_REG. -/
theorem test_reset_in_mid_command :
    let s := readingAt 40 [answerOk false]
    let t := stepTo { s with env := { s.env with inputs := [.rst false] } }
    t.hstate = .uninitialized ∧ t.env.trace = [] ∧ t.rspValid = false ∧ t.obs 0x03 = 0 ∧
      t.env.pins.level 10 = none := by decide +kernel

/-- V41-9, V41-15, V41-16, V41-20, V41-22 and V41-23: the arithmetic. -/
theorem test_binary64 :
    fmul64 (i16ToF64 (sint16 0x8000)) 0x7FE1CCF385EBC8A0 = 0xFFF0000000000000 ∧
    fmul64 (i16ToF64 (sint16 0x0003)) 0x3FF0000000000001 = 0x4008000000000002 ∧
    fmul64 (i16ToF64 (sint16 0x0000)) 0x7FF0000000000000 = 0x7FF8000000000000 ∧
    fadd64 (fmul64 (i16ToF64 (sint16 0x0003)) 0x3FB999999999999A) 0xBFD3333333333333 =
      0x3C90000000000000 ∧
    fadd64 0 0x8000000000000000 = 0 ∧
    fadd64 0x8000000000000000 0x8000000000000000 = 0x8000000000000000 := by decide +kernel

/-! ## Witnesses: for every statement with hypotheses, states and operands that meet them -/

theorem conv_bound : HandleBound conv := ⟨by decide, rfl, by decide⟩

/-- The invariant of an idle state with no valid scale constant. -/
theorem inv_of_idle {s : State} (hb : s.busy = false) (ht : s.hstate ≠ .transacting)
    (hs : s.sq = Sequencer.reset) (hc : s.csAsserted = true → s.hstate = .ready)
    (hh : s.hstate ≠ .uninitialized → s.handle = conv)
    (hr : s.rdataValid = false → s.rdata = 0) (ho : s.errInfo = 0) (hf : s.scale = ScaleFile.reset)
    (hp : s.env.pins.wf) : s.Inv where
  running h := by rw [hb] at h; cases h
  idle _ := ⟨ht, by rw [hs]; exact ⟨rfl, rfl, rfl⟩⟩
  held h := .inl (hc h)
  bound h := by rw [hh h]; exact conv_bound
  noPartialRead := hr
  okDetail _ := ho
  unsetLsb c _ := by rw [hf]; cases c <;> rfl
  unsetOffset _ := by rw [hf]; rfl
  pinsCanonical := hp
  response _ := hb

theorem inv_tReady : tReady.Inv :=
  inv_of_idle rfl (by decide) rfl (by decide) (fun _ => rfl) (by decide) rfl rfl (by decide)

theorem inv_tHeld : tHeld.Inv :=
  inv_of_idle rfl (by decide) rfl (fun _ => rfl) (fun _ => rfl) (by decide) rfl rfl (by decide)

theorem inv_tClosed : tClosed.Inv :=
  inv_of_idle rfl (by decide) rfl (by decide) (fun _ => rfl) (by decide) rfl rfl (by decide)

theorem lineInv_tReady : tReady.LineInv := ⟨by decide, by decide, by decide⟩

/-- The invariant of a busy state with no valid scale constant. -/
theorem inv_of_running {s : State} {i : Instr} (hb : s.busy = true) (hv : s.rspValid = false)
    (hp : s.sq.primPending = true) (hd : decode s.sq.cmdL s.sq.opndL = .command i)
    (hr : Running s i) (hc : s.csAsserted = true → s.hstate = .ready ∨ s.hstate = .transacting)
    (hh : s.handle = conv) (hz : s.rdataValid = false → s.rdata = 0) (ho : s.errInfo = 0)
    (hf : s.scale = ScaleFile.reset) (hw : s.env.pins.wf) : s.Inv where
  running _ := ⟨hp, i, hd, hr⟩
  idle h := by rw [hb] at h; cases h
  held := hc
  bound _ := by rw [hh]; exact conv_bound
  noPartialRead := hz
  okDetail _ := ho
  unsetLsb c _ := by rw [hf]; cases c <;> rfl
  unsetOffset _ := by rw [hf]; rfl
  pinsCanonical := hw
  response h := by rw [hv] at h; cases h

/-- READ_REG with its first body primitive in flight, answered OK. -/
abbrev tRead0 : State := readingAt 0 [answerOk false]

/-- READ_REG with its last body primitive in flight, a GETL answered HIGH. -/
abbrev tRead96 : State := readingAt 96 [answerOk true]

/-- READ_REG with the release of a whole transaction in flight, never answered. -/
abbrev tReadRelease : State := readReleasing .release 97 [answerNever]

/-- READ_REG with the release after a timeout of primitive 96 in flight, answered OK. -/
abbrev tReadCleanup : State := readReleasing (.cleanup .primTimeout 96) 97 [answerOk false]

/-- INIT with its last primitive in flight, answered OK. -/
abbrev tInit9 : State := initAt 9 [answerOk false]

theorem at_tRead0 : TransactionAt (readSequence conv 0x06) tRead0 := ⟨by decide, rfl, rfl⟩

theorem at_tRead96 : TransactionAt (readSequence conv 0x06) tRead96 := ⟨by decide, rfl, rfl⟩

theorem inv_tRead0 : tRead0.Inv :=
  inv_of_running (i := .readReg 0x06) rfl rfl rfl (by decide) ⟨rfl, by decide, at_tRead0⟩
    (fun _ => .inr rfl) rfl (by decide) rfl rfl (by decide)

theorem inv_tRead96 : tRead96.Inv :=
  inv_of_running (i := .readReg 0x06) rfl rfl rfl (by decide) ⟨rfl, by decide, at_tRead96⟩
    (fun _ => .inr rfl) rfl (by decide) rfl rfl (by decide)

theorem inv_tReadRelease : tReadRelease.Inv :=
  inv_of_running (i := .readReg 0x06) rfl rfl rfl (by decide)
    ⟨rfl, by decide, ⟨rfl, rfl, rfl, rfl⟩⟩ (fun _ => .inr rfl) rfl (by decide) rfl rfl (by decide)

theorem inv_tReadCleanup : tReadCleanup.Inv :=
  inv_of_running (i := .readReg 0x06) rfl rfl rfl (by decide)
    ⟨rfl, by decide, .inl rfl, by decide, ⟨rfl, rfl, rfl, rfl⟩⟩ (fun _ => .inr rfl) rfl (by decide) rfl
    rfl (by decide)

/-- INIT with `SETL(PIN_CS, HIGH)` in flight, answered LINE_FAIL. -/
abbrev tInit1 : State := initAt 1 [answerFail]

theorem inv_tInit1 : tInit1.Inv :=
  inv_of_running (i := initConv) rfl rfl rfl (by decide)
    ⟨rfl, rfl, rfl, rfl, conv_bound, by decide, rfl⟩ (by decide) rfl (fun _ => rfl) rfl rfl (by decide)

theorem inv_tInit9 : tInit9.Inv :=
  inv_of_running (i := initConv) rfl rfl rfl (by decide)
    ⟨rfl, rfl, rfl, rfl, conv_bound, by decide, rfl⟩ (by decide) rfl (fun _ => rfl) rfl rfl (by decide)

theorem witness_DecodeMatchesOpcodeTable :
    decode 0x00000605 0 = .command (.readReg 6) ∧
    ((0x00000605 : CmdWord) &&& (tableRow (.readReg 6)).2 = (tableRow (.readReg 6)).1) ∧
    ((0x00640001 : CmdWord) &&& (tableRow initConv).2 = (tableRow initConv).1 ∧
      (0x00000E0D0C05060A : OpndWord).extractLsb' 52 12 = 0) ∧
    (0x00000605 : CmdWord) &&& (tableRow (.readReg 9)).2 = (tableRow (.readReg 9)).1 := by decide

theorem witness_ReservedWordsAreIllegal :
    ((0xFFFFFFF0 : CmdWord).extractLsb' 0 4).toNat = 0 ∧
    10 ≤ ((0xFFFFFFFA : CmdWord).extractLsb' 0 4).toNat ∧
    1 ≤ ((0x00000001 : CmdWord).extractLsb' 0 4).toNat ∧
    ((0x00000009 : CmdWord).extractLsb' 0 4).toNat ≤ 9 := by decide

theorem witness_AssemblerEmitsLegalWords :
    (AsmLine.writeReg (.name .DEC_RATE) (.decimal 5)).assemble = some [.writeReg 0x64 5] ∧
    (WordOperand.decimal (-32768)).value = some 0x8000 ∧
    (WordOperand.decimal 32767).value = some 0x7FFF ∧
    (WordOperand.decimal 32768).value = none ∧ (WordOperand.decimal (-32769)).value = none ∧
    (0 : Nat) * 2 ^ 1074 < (2 ^ 54 - 1) * 2 ^ 2044 * 10 ^ 1 ∧
    isFinite 0x3FB999999999999A = true := by decide +kernel

/-- The decimal literals of section 0 of 95_test_vectors.md: 0.01, -0.3, 1e308. -/
theorem test_assembler_decimal :
    (F64Operand.decimal false 1 2).value = 0x3F847AE147AE147B ∧
    (F64Operand.decimal true 3 1).value = 0xBFD3333333333333 ∧
    (F64Operand.decimal false (10 ^ 308) 0).value = 0x7FE1CCF385EBC8A0 := by decide +kernel

/-- The offered command of the witnesses below. -/
def tOffered : State := offer tReady (.readReg 0x06) (List.replicate 98 (answerOk false))

theorem offered_read : Offered tOffered (.readReg 0x06) [] :=
  ⟨rfl, rfl, rfl, _, _, rfl, rfl⟩

theorem witness_StepRunsOfferedCommand :
    tOffered.takeInput.env.rstN = true ∧ tOffered.takeInput.busy = false ∧
    tOffered.takeInput.env.cmdQueue = [(0x00000605, 0)] ∧
    decode 0x00000605 0 = .command (.readReg 0x06) := by decide

theorem witness_StepResumesLatchedCommand :
    (let s := readingAt 0 []
     s.takeInput.env.rstN = true ∧ s.takeInput.busy = true ∧
      decode s.sq.cmdL s.sq.opndL = .command (.readReg 0x06)) ∧
    tReady.takeInput.env.rstN = true ∧ tReady.takeInput.busy = false ∧
    tReady.takeInput.env.cmdQueue = [] := ⟨⟨rfl, rfl, by rfl⟩, rfl, rfl, rfl⟩

/-- A command is offered in the very step of a busy block. -/
theorem witness_OffersWaitWhileBusy :
    let s := landing (.offer 0x00000003 0) tRead0
    s.takeInput.env.rstN = true ∧ s.busy = true ∧ (∃ t, step s = .next t) ∧
    s.env.inputs = .offer 0x00000003 0 :: [] ∧ tRead0.env.inputs = [] :=
  ⟨rfl, rfl, ⟨_, rfl⟩, rfl, rfl⟩

theorem witness_OffersWaitWhileBusy_levels :
    (landing .quiet tRead0).env.inputs = .quiet :: [] ∧
    (landing (.gpio false) tRead0).env.inputs = .gpio false :: [] ∧
    (landing (.rst false) tRead0).env.inputs = .rst false :: [] := ⟨rfl, rfl, rfl⟩

theorem witness_IllegalCommandCompletes :
    let s := { tReady with env := { tReady.env with cmdQueue := [(0x00000012, 0), (0x0000000A, 0)] } }
    s.env.inputs = [] ∧ s.env.rstN = true ∧ s.busy = false ∧
    s.env.cmdQueue = (0x00000012, 0) :: [(0x0000000A, 0)] ∧
    decode 0x00000012 0 = .illegal .nonzeroReservedField ∧
    decode 0x0000000A 0 = .illegal .reservedOpcode := ⟨rfl, rfl, rfl, rfl, by decide, by decide⟩

theorem witness_OnePrimitiveAtATime : ∃ t, step tOffered = .next t := ⟨_, rfl⟩

theorem witness_PollBudgetDecidesTimeout :
    99 + 1 ≤ (100 : BitVec 16).toNat ∧ (100 : BitVec 16).toNat < 100 + 1 ∧
    (0 : BitVec 16).toNat < 0 + 1 := by decide

theorem witness_GpioReadySampledOnlyAtInit :
    (tReady.Inv ∧ tReady.env.inputs = [] ∧ ∃ t, step tReady = .next t) ∧
    ∀ cmd opnd rest, tReady.busy = false → tReady.env.cmdQueue = (cmd, opnd) :: rest →
      ∀ budget cs dr rst dout din sclk clksel,
        decode cmd opnd ≠ .command (.init budget cs dr rst dout din sclk clksel) :=
  ⟨⟨inv_tReady, rfl, _, rfl⟩, fun _ _ _ _ h => by cases h⟩

/-- rst_n falls before the next step, a READ_REG running. -/
theorem witness_BlockResetSetsResetValues :
    let s := { readingAt 40 [] with env := { tReady.env with inputs := [.rst false] } }
    s.takeInput.env.rstN = false ∧ s.busy = true := ⟨rfl, rfl⟩

/-- A command running with a SETL in flight, one with a SETM, and none running. -/
theorem witness_ResetAbandonsCommand :
    (let s := { readingAt 40 [] with env := { tReady.env with inputs := [.rst false] } }
     s.takeInput.env.rstN = false ∧ s.busy = true ∧ s.sq.preq.op ≠ .setPinMode) ∧
    (let s := { tInit9 with env := { tReady.env with rstN := false } }
     s.takeInput.env.rstN = false ∧ s.busy = true ∧ s.sq.preq.op = .setPinMode) ∧
    (let s := { tReady with env := { tReady.env with rstN := false } }
     s.takeInput.env.rstN = false ∧ s.busy = false) :=
  ⟨⟨rfl, rfl, by decide⟩, ⟨rfl, rfl, rfl⟩, rfl, rfl⟩

/-- CLOSED, a release failed before, constants and offset set. -/
def tClosedFault : State := { tClosed with csFault := true, scale := tScale }

theorem inv_tClosedFault : tClosedFault.Inv :=
  ⟨fun h => absurd h (by decide), inv_tClosed.idle, inv_tClosed.held, inv_tClosed.bound,
    inv_tClosed.noPartialRead, inv_tClosed.okDetail, (by intro c; cases c <;> decide), (by decide),
    inv_tClosed.pinsCanonical, fun _ => rfl⟩

theorem witness_OnlyResetLeavesClosed :
    tClosedFault.Inv ∧ tClosedFault.takeInput.env.rstN = true ∧ (∃ t, step tClosedFault = .next t) ∧
    tClosedFault.hstate = .closed ∧ tClosedFault.csFault = true ∧
    tClosedFault.scale.lsbValid.getLsbD 1 = true ∧ tClosedFault.scale.ofsValid = true :=
  ⟨inv_tClosedFault, rfl, ⟨_, rfl⟩, rfl, rfl, rfl, rfl⟩

theorem witness_ObservationLayout :
    0x0E ≤ (0x0E : BitVec 5).toNat ∧ 0x0E ≤ (0x1F : BitVec 5).toNat := by decide

theorem witness_DefaultRegisterMap : 0x66 ≤ (0x66 : RegAddr).toNat ∧ 0x66 ≤ (0xFF : RegAddr).toNat := by
  decide

theorem witness_OddAddressIsInvalid :
    tReady.cfg.wf = true ∧ tReady.sq.primPending = false ∧ tReady.hstate = .ready ∧
    (0x05 : RegAddr).toNat % 2 = 1 ∧ 0x80 ≤ (0x80 : RegAddr).toNat := by decide

theorem witness_InitChecksInOrder :
    tReset.sq.primPending = false ∧ tClosed.hstate = .closed ∧ tReady.hstate = .ready ∧
    tReset.hstate = .uninitialized ∧ tReset.env.gpioReady = true ∧
    ({ tReset with env := { tReset.env with gpioReady := false } } : State).env.gpioReady = false ∧
    ¬ ([10, 10, 5, 12, 13, 14] : List PinId).Nodup ∧ ([10, 6, 5, 12, 13, 14] : List PinId).Nodup ∧
    (1 : BitVec 4) ≠ 0 := by decide

theorem witness_InitBindsAndStarts :
    tReset.sq.primPending = false ∧ tReset.hstate = .uninitialized ∧ tReset.env.gpioReady = true ∧
    ([10, 6, 5, 12, 13, 14] : List PinId).Nodup ∧ (100 : BitVec 16) ≠ 0 ∧ (1 : BitVec 16) ≠ 0 := by
  decide

/-- The last primitive, one before it, a failed one, and a failed `SETL(PIN_CS, HIGH)`. -/
theorem witness_InitPrimitiveOutcome :
    (let s := initAt 9 [answerOk false]
     s.sq.primPending = true ∧ s.outcome = .ok false ∧ s.sq.seq = []) ∧
    (let s := initAt 8 [answerOk false]
     s.sq.primPending = true ∧ s.outcome = .ok false ∧ s.sq.seq = [setm 6 false]) ∧
    (let s := initAt 8 [answerNever]
     s.sq.primPending = true ∧ s.outcome.failed = true) ∧
    (let s := initAt 1 [answerFail]
     s.sq.primPending = true ∧ s.outcome.failed = true ∧
      s.sq.preq = setl s.handle.pinCs true) := by decide

/-- Answers that all come in time. -/
theorem answeredOk_replicate (n : Nat) :
    ∀ a ∈ List.replicate n (answerOk false), AnsweredOk 100 a := by
  intro a ha
  rw [List.eq_of_mem_replicate ha]
  rfl

theorem witness_InitMakesHandleReady :
    let s := offer tReset initConv (List.replicate 10 (answerOk false))
    Offered s initConv [] ∧ s.hstate = .uninitialized ∧ s.csAsserted = false ∧
    s.env.gpioReady = true ∧ ([10, 6, 5, 12, 13, 14] : List PinId).Nodup ∧ (100 : BitVec 16) ≠ 0 ∧
    Answers s (List.replicate 10 (answerOk false)) [] ∧
    (List.replicate 10 (answerOk false)).length = 10 ∧
    (∀ a ∈ List.replicate 10 (answerOk false), AnsweredOk 100 a) :=
  ⟨⟨rfl, rfl, rfl, _, _, rfl, rfl⟩, rfl, rfl, rfl, by decide, by decide, rfl, rfl,
    answeredOk_replicate 10⟩

theorem witness_TeardownRule :
    (tReady.sq.primPending = false ∧ tClosed.hstate = .closed ∧ tReset.hstate = .uninitialized ∧
      tReady.hstate = .ready ∧ tReady.csAsserted = false ∧ tHeld.hstate = .ready ∧
      tHeld.csAsserted = true) ∧
    (releasing tHeld .teardown 0 .release [answerFail]).sq.primPending = true := by decide

theorem witness_AssertCsRule :
    (tReady.sq.primPending = false ∧ tClosed.hstate = .closed ∧ tReset.hstate = .uninitialized ∧
      tHeld.hstate = .ready ∧ tHeld.csAsserted = true ∧ tReady.csAsserted = false) ∧
    (let s := running tReady .assertCs [setl 10 false] 0 .body [answerOk true]
     s.sq.primPending = true ∧ s.sq.phase = .body ∧ s.outcome = .ok true) ∧
    (let s := running tReady .assertCs [setl 10 false] 0 .body [answerNever]
     s.sq.primPending = true ∧ s.sq.phase = .body ∧ s.outcome.failed = true) ∧
    (let s := releasing tReady .assertCs 1 (.cleanup .primTimeout 0) [answerOk false]
     s.sq.primPending = true ∧ s.sq.phase = .cleanup .primTimeout 0) := by decide

theorem witness_DeassertCsRule :
    (tReady.sq.primPending = false ∧ tClosed.hstate ≠ .ready ∧ tReady.hstate = .ready) ∧
    (releasing tHeld .deassertCs 0 .release [answerNever]).sq.primPending = true := by decide

theorem witness_RequestWordLayout : (0x7F : RegAddr).toNat < 0x80 := by decide

theorem witness_TransactionIndexMap : 0 ≤ 15 ∧ 15 ≤ 15 := by decide

theorem witness_ReadRegChecksAndStart :
    tReady.sq.primPending = false ∧ tClosed.hstate = .closed ∧ tReset.hstate = .uninitialized ∧
    tReady.hstate = .ready ∧ (0x66 : RegAddr) ∉ tReady.cfg.validAddr ∧
    (0x06 : RegAddr) ∈ tReady.cfg.validAddr ∧ tHeld.csAsserted = true ∧
    tReady.csAsserted = false := by decide

theorem witness_WriteRegChecksAndStart :
    tReady.sq.primPending = false ∧ tClosed.hstate = .closed ∧ tReset.hstate = .uninitialized ∧
    tReady.hstate = .ready ∧ (0x00 : RegAddr) ∉ tReady.cfg.validAddr ∧
    (0x64 : RegAddr) ∈ tReady.cfg.validAddr ∧ tHeld.csAsserted = true ∧
    tReady.csAsserted = false := by decide

/-- At primitive 0, and at the GETL of primitive 96. -/
theorem witness_TransactionPrimitiveOk :
    (let s := tRead0
     IsTransaction (.readReg 0x06) ∧ s.sq.primPending = true ∧ s.sq.phase = .body ∧
      TransactionAt (transactionSequence s.handle (.readReg 0x06)) s ∧ s.outcome = .ok false) ∧
    (let s := readingAt 96 [answerOk true]
     s.sq.primPending = true ∧ s.sq.phase = .body ∧
      TransactionAt (transactionSequence s.handle (.readReg 0x06)) s ∧ s.outcome = .ok true ∧
      s.sq.preq.op = .readPinLevel) :=
  ⟨⟨trivial, rfl, rfl, ⟨by decide, rfl, rfl⟩, rfl⟩, ⟨rfl, rfl, ⟨by decide, rfl, rfl⟩, rfl, rfl⟩⟩

theorem witness_TransactionPrimitiveFails :
    let s := writingAt 1 [answerNever]
    IsTransaction (.writeReg 0x64 5) ∧ s.sq.primPending = true ∧ s.sq.phase = .body ∧
      s.outcome.failed = true := ⟨trivial, rfl, rfl, rfl⟩

theorem witness_ReadRegCompletes :
    (let s := tReadRelease
     s.sq.primPending = true ∧ s.sq.phase = .release) ∧
    (let s := readReleasing (.cleanup .primTimeout 51) 52 [answerOk false]
     s.sq.primPending = true ∧ s.sq.phase = .cleanup .primTimeout 51) := ⟨⟨rfl, rfl⟩, rfl, rfl⟩

theorem witness_WriteRegCompletes :
    (let s := releasing { tHeld with hstate := .transacting } (.writeReg 0x64 5) 97 .release [answerFail]
     s.sq.primPending = true ∧ s.sq.phase = .release) ∧
    (let s := releasing { tHeld with hstate := .transacting } (.writeReg 0x64 5) 51
      (.cleanup .primLineFail 50) [answerOk false]
     s.sq.primPending = true ∧ s.sq.phase = .cleanup .primLineFail 50) := ⟨⟨rfl, rfl⟩, rfl, rfl⟩

/-- A transaction offered with `n` OK answers and then `more`. -/
def tTransaction (i : Instr) (n : Nat) (more : List Answer) : State :=
  offer tReady i (List.replicate n (answerOk false) ++ more)

theorem witness_ReadRegReturnsWord :
    let s := tTransaction (.readReg 0x06) 97 [answerNever]
    TransactionOffered s (.readReg 0x06) [] ∧
    Answers s (List.replicate 97 (answerOk false) ++ [answerNever]) [] ∧
    (List.replicate 97 (answerOk false)).length = 97 ∧
    (∀ x ∈ List.replicate 97 (answerOk false), AnsweredOk s.handle.pollBudget x) :=
  ⟨⟨⟨rfl, rfl, rfl, _, _, rfl, rfl⟩, trivial, rfl, rfl, rfl⟩, rfl, rfl,
    answeredOk_replicate 97⟩

theorem witness_WriteRegSendsWord :
    let s := tTransaction (.writeReg 0x64 5) 97 [answerOk false]
    TransactionOffered s (.writeReg 0x64 5) [] ∧
    Answers s (List.replicate 97 (answerOk false) ++ [answerOk false]) [] ∧
    (List.replicate 97 (answerOk false)).length = 97 ∧
    (∀ x ∈ List.replicate 97 (answerOk false), AnsweredOk s.handle.pollBudget x) :=
  ⟨⟨⟨rfl, rfl, rfl, _, _, rfl, rfl⟩, trivial, rfl, rfl, rfl⟩, rfl, rfl,
    answeredOk_replicate 97⟩

/-- The failure at primitive 0 and at primitive 96. -/
theorem witness_TransactionFailureReleases :
    ∀ n ∈ [0, 96],
      let s := tTransaction (.readReg 0x06) n [answerFail, answerNever]
      TransactionOffered s (.readReg 0x06) [] ∧
      Answers s (List.replicate n (answerOk false) ++ [answerFail, answerNever]) [] ∧
      (List.replicate n (answerOk false)).length ≤ 96 ∧
      (∀ x ∈ List.replicate n (answerOk false), AnsweredOk s.handle.pollBudget x) ∧
      (answerFail.outcome s.handle.pollBudget).failed = true := by
  intro n hn
  refine ⟨⟨⟨rfl, rfl, rfl, _, _, rfl, rfl⟩, trivial, rfl, rfl, rfl⟩, ?_, ?_,
    answeredOk_replicate n, rfl⟩
  · simp [Answers, tTransaction, offer]
  · revert n; simp

theorem witness_MockRoundTrip :
    (let d : Dev := [(0x06, 0x1000)]
     let s := offer tReady (.readReg 0x06) (mockAnswers d (.readReg 0x06))
     TransactionOffered s (.readReg 0x06) [] ∧ Answers s (mockAnswers d (.readReg 0x06)) [] ∧
      s.handle.pollBudget ≠ 0) ∧
    (let d : Dev := [(0x06, 0x1000)]
     let as := mockAnswersFailing d (.readReg 0x06) 96 answerFail (answerOk false)
     let s := offer tReady (.readReg 0x06) as
     TransactionOffered s (.readReg 0x06) [] ∧ Answers s as [] ∧ as.length = 98 ∧
      (answerFail.outcome s.handle.pollBudget).failed = true) ∧
    (97 ≤ (mockAnswers [] (.writeReg 0x64 5)).length ∧
      ((mockAnswers [] (.writeReg 0x64 5)).take 97).all
        (fun x => (x.outcome 100).failed = false) = true) ∧
    (mockAnswersFailing [] (.writeReg 0x64 5) 95 answerFail (answerOk false)).length = 97 ∧
    ([] : List Answer).length < 97 ∧
    (∃ x ∈ (mockAnswersFailing [] (.writeReg 0x64 5) 95 answerFail (answerOk false)).take 97,
      (x.outcome 100).failed = true) ∧
    (cellsWf ([(0x64, 0x0013)] : Dev) ∧
      cellsGet (0x64 : RegAddr).toNat ([(0x64, 0x0013)] : Dev) = some 0x0013) ∧
    ∀ a v, Instr.teardown ≠ .writeReg a v :=
  ⟨⟨⟨⟨rfl, rfl, rfl, _, _, rfl, rfl⟩, trivial, rfl, rfl, rfl⟩, by simp [Answers, offer], by decide⟩,
    ⟨⟨⟨rfl, rfl, rfl, _, _, rfl, rfl⟩, trivial, rfl, rfl, rfl⟩, by simp [Answers, offer], rfl, rfl⟩,
    ⟨by decide, by decide⟩, rfl, by decide, ⟨answerFail, by decide, rfl⟩, by decide, by simp⟩

/-- R90, vectors V40-20 and V40-22: DEV[0x64] after a failure at k = 1 and after a whole write. -/
theorem test_mock_write :
    mockAfter [(0x64, 0x0013)] 100
      (mockAnswersFailing [] (.writeReg 0x64 5) 1 answerNever (answerOk false)) (.writeReg 0x64 5) =
        [(0x64, 0x0013)] ∧
    mockAfter [(0x64, 0x0013)] 100
      (mockAnswersFailing [] (.writeReg 0x64 5) 97 answerFail (answerOk false)) (.writeReg 0x64 5) =
        [(0x64, 0x0005)] := by decide

/-- Both sides of the equivalence, on an input with a value. -/
theorem witness_ConversionIsAFunction :
    Converts tScale 0x1000 1 (.value (fmul64 (i16ToF64 (0x1000 : Word16).toInt) tScale.gyro)) ∧
    scaleValue tScale 0x1000 1 = .value 0x40447AE147AE147B :=
  ⟨.gyroscope rfl, by decide +kernel⟩

theorem witness_ScaleRule :
    Converts tScale 0x1000 0 (.fail .notConfigured) ∧
    Converts tScale 0x1000 7 (.fail .invalidCategory) :=
  ⟨.constantMissing (by decide) rfl, .unsupported (by decide)⟩

theorem witness_ScaleRdRule :
    5 ≤ (5 : BitVec 3).toNat ∧ (4 : BitVec 3).toNat < 5 ∧ tReset.rdataValid = false ∧
    tReady.rdataValid = true ∧ Converts tReady.scale tReady.rdata 4 (.fail .notConfigured) :=
  ⟨by decide, by decide, rfl, rfl, .constantMissing (by decide) rfl⟩

theorem witness_SetLsbRule : 5 ≤ (5 : BitVec 3).toNat ∧ Category.gyroscope ≠ .temperature ∧
    (4 : Nat) < 5 := by
  decide

/-- (2^27 - 1) 2^485 times (2^27 + 1) 2^485 is the overflow threshold itself; one unit in the last place
less in the second factor is just below it. -/
theorem witness_MultiplyRoundsToNearestEven :
    (isFinite 0x7FEFFFFFFFFFFFFF = true ∧ isFinite 0x5FEFFFFFFC000000 = true ∧
      isFinite 0x5FF0000001FFFFFF = true ∧
      fMag 0x5FEFFFFFFC000000 * fMag 0x5FF0000001FFFFFF < (2 ^ 54 - 1) * 2 ^ 2044 * 2 ^ 1074) ∧
    (isFinite 0x5FF0000002000000 = true ∧
      fMag 0x5FEFFFFFFC000000 * fMag 0x5FF0000002000000 = (2 ^ 54 - 1) * 2 ^ 2044 * 2 ^ 1074) := by
  decide +kernel

/-- The largest finite number plus 2^970 is the overflow threshold itself; plus the number before 2^970
it is just below it. -/
theorem witness_AddRoundsToNearestEven :
    (fVal 0x3FF0000000000000 + fVal 0xBFF0000000000000 = 0) ∧
    (isFinite 0x7FEFFFFFFFFFFFFF = true ∧ isFinite 0x7C8FFFFFFFFFFFFF = true ∧
      fVal 0x7FEFFFFFFFFFFFFF + fVal 0x7C8FFFFFFFFFFFFF ≠ 0 ∧
      (fVal 0x7FEFFFFFFFFFFFFF + fVal 0x7C8FFFFFFFFFFFFF).natAbs < (2 ^ 54 - 1) * 2 ^ 2044) ∧
    (isFinite 0x7C90000000000000 = true ∧
      (fVal 0x7FEFFFFFFFFFFFFF + fVal 0x7C90000000000000).natAbs = (2 ^ 54 - 1) * 2 ^ 2044) := by
  decide +kernel

theorem witness_SpecialValuesOfArithmetic :
    isNaN 0x7FF4000000000000 = true ∧ isInf 0x7FF0000000000000 = true ∧
    isInf 0xFFF0000000000000 = true ∧ isZero 0x8000000000000000 = true ∧
    fSign 0x7FF0000000000000 ≠ fSign 0xFFF0000000000000 ∧
    isNaN 0x3FF0000000000000 = false ∧ isZero 0x3FF0000000000000 = false ∧
    isInf 0x3FF0000000000000 = false ∧ isNaN (fmul64 0x7FF4000000000000 0) = true ∧
    isNaN (fadd64 0x7FF4000000000000 0) = true := by decide

theorem witness_ScaleProperties :
    (∃ t, exec (.scale 1 0) tReset = .next t) ∧ (∃ t, exec (.scaleRd 1) tReady = .next t) ∧
    tReady.rdataValid = true ∧ (tReady.scale = tReset.scale ∧ tReady.rdata = 0x1234) ∧
    (tScale.lsbValid.getLsbD 1 = true ∧ isFinite tScale.gyro = true ∧ fSign tScale.gyro = false ∧
      fMag tScale.gyro ≠ 0) ∧
    (tScale.isValid .gyroscope = true ∧ Category.gyroscope ≠ .temperature) ∧
    (tScale.isValid .temperature = true ∧ tScale.ofsValid = true ∧ isFinite tScale.temp = true ∧
      fSign tScale.temp = false ∧ tScale.tempOffset ≠ 0x8000000000000000 ∧
      isNaN tScale.tempOffset = false) ∧
    (let f := { tScale with tempOffset := 0x7FF4000000000000 }
     f.isValid .temperature = true ∧ f.ofsValid = true ∧ isNaN f.tempOffset = true) ∧
    IsScaling (.scale 1 0) :=
  ⟨⟨_, rfl⟩, ⟨_, rfl⟩, rfl, ⟨rfl, rfl⟩, by decide +kernel, by decide, by decide, by decide, trivial⟩

theorem witness_ScalingFrame :
    IsScaling (.scaleRd 1) ∧ ∃ t, exec (.scaleRd 1) tReady = .next t := ⟨trivial, _, rfl⟩

theorem witness_BusCommandFrame :
    IsTransaction (.writeReg 0x64 5) ∧
    (∃ t, exec (.writeReg 0x64 5) (writingAt 1 [answerOk false]) = .next t) ∧
    (∃ t, exec .assertCs tReady = .next t) ∧ ¬ IsTransaction .assertCs :=
  ⟨trivial, ⟨_, rfl⟩, ⟨_, rfl⟩, fun h => h⟩

theorem witness_LifecycleFrame :
    (∃ t, exec .teardown tHeld = .next t) ∧ ∃ t, exec initConv tReset = .next t :=
  ⟨⟨_, rfl⟩, _, rfl⟩

/-- A SETL in flight, a SETM in flight, a GETL in flight, nothing in flight. -/
theorem witness_PinsChangeOnlyByThePrimitive :
    ¬ IsScaling (.readReg 0x06) ∧
    (∃ t, exec (.readReg 0x06) tRead0 = .next t) ∧
    ((readingAt 0 []).sq.primPending = true ∧ (readingAt 0 []).sq.preq.op = .setPinLevel) ∧
    (readingAt 96 []).sq.preq.op = .readPinLevel ∧ (initAt 9 []).sq.preq.op = .setPinMode ∧
    tReady.sq.primPending = false :=
  ⟨fun h => h, ⟨_, rfl⟩, ⟨rfl, rfl⟩, rfl, rfl, rfl⟩

/-- Idle, running in the body, running with a release in flight, running INIT. -/
theorem witness_StepKeepsInvariant :
    (tReady.Inv ∧ ∃ t, step tReady = .next t) ∧
    (tRead96.Inv ∧ ∃ t, step tRead96 = .next t) ∧
    (tReadRelease.Inv ∧
      ∃ t, step tReadRelease = .next t) ∧
    tInit9.Inv ∧ ∃ t, step tInit9 = .next t :=
  ⟨⟨inv_tReady, _, rfl⟩, ⟨inv_tRead96, _, rfl⟩, ⟨inv_tReadRelease, _, rfl⟩,
    inv_tInit9, _, rfl⟩

theorem witness_StepKeepsChipSelectLine :
    (tReady.Inv ∧ tReady.LineInv ∧ ∃ t, step tReady = .next t) ∧
    (tRead96.Inv ∧ tRead96.LineInv ∧
      ∃ t, step tRead96 = .next t) :=
  ⟨⟨inv_tReady, lineInv_tReady, _, rfl⟩,
    ⟨inv_tRead96, ⟨fun _ => rfl, by decide, by decide⟩, _, rfl⟩⟩

/-- Each of the four steps that must change HSTATE. -/
theorem witness_HandleStateTransitions_when :
    (tInit9.Inv ∧ tInit9.takeInput.env.rstN = true ∧ step tInit9 = .next (stepTo tInit9) ∧
      tInit9.hstate = .uninitialized ∧
      decode (stepTo tInit9).sq.cmdL (stepTo tInit9).sq.opndL = .command initConv ∧
      (stepTo tInit9).rspValid = true ∧ (stepTo tInit9).status = .ok) ∧
    (tOffered.Inv ∧ tOffered.takeInput.env.rstN = true ∧ step tOffered = .next (stepTo tOffered) ∧
      tOffered.hstate = .ready ∧
      decode (stepTo tOffered).sq.cmdL (stepTo tOffered).sq.opndL = .command (.readReg 0x06) ∧
      IsTransaction (.readReg 0x06) ∧ (stepTo tOffered).env.trace ≠ tOffered.env.trace) ∧
    (tReadCleanup.Inv ∧ tReadCleanup.takeInput.env.rstN = true ∧
      step tReadCleanup = .next (stepTo tReadCleanup) ∧ tReadCleanup.hstate = .transacting ∧
      (stepTo tReadCleanup).busy = false) ∧
    (let s := offer tReady .teardown []
     s.Inv ∧ s.takeInput.env.rstN = true ∧ step s = .next (stepTo s) ∧ s.hstate = .ready ∧
      decode (stepTo s).sq.cmdL (stepTo s).sq.opndL = .command .teardown ∧
      (stepTo s).rspValid = true) :=
  ⟨⟨inv_tInit9, rfl, rfl, rfl, by decide, rfl, rfl⟩,
    ⟨inv_of_idle rfl (by decide) rfl (by decide) (fun _ => rfl) (by decide) rfl rfl (by decide), rfl,
      rfl, rfl, by decide, trivial, by decide⟩,
    ⟨inv_tReadCleanup, rfl, rfl, rfl, rfl⟩,
    ⟨inv_of_idle rfl (by decide) rfl (by decide) (fun _ => rfl) (by decide) rfl rfl (by decide), rfl,
      rfl, rfl, by decide, rfl⟩⟩

/-- A step that leaves HSTATE, one to READY, and a reset. -/
theorem witness_HandleStateTransitions :
    (tReady.Inv ∧ tReady.takeInput.env.rstN = true ∧ ∃ t, step tReady = .next t) ∧
    (tInit9.Inv ∧ tInit9.takeInput.env.rstN = true ∧
      ∃ t, step tInit9 = .next t) ∧
    (let s := { tReady with env := { tReady.env with rstN := false } }
     s.Inv ∧ s.takeInput.env.rstN = false ∧ ∃ t, step s = .next t) :=
  ⟨⟨inv_tReady, rfl, _, rfl⟩, ⟨inv_tInit9, rfl, _, rfl⟩,
    inv_of_idle rfl (by decide) rfl (by decide) (fun _ => rfl) (by decide) rfl rfl (by decide), rfl, _, rfl⟩

theorem witness_ClosedHandleTouchesNoPin :
    tClosed.hstate = .closed ∧ tClosed.sq.primPending = false ∧ IsScaling (.scale 1 0) ∧
    ¬ IsScaling initConv := ⟨rfl, rfl, trivial, fun h => h⟩

theorem witness_NoPartialResultVisible :
    (∃ t, step tRead96 = .next t) ∧
    (stepTo tRead96).busy = true := ⟨⟨_, rfl⟩, rfl⟩

/-- An assert in READY, the release of ASSERT_CS's window, and a body primitive of a transaction. -/
theorem witness_ChipSelectWindow :
    (let s := offer tReady .assertCs []
     s.Inv ∧ s.takeInput.env.rstN = true ∧ s.hstate ≠ .uninitialized ∧ step s = .next (stepTo s) ∧
      (stepTo s).env.trace = s.env.trace ++ [setl s.handle.pinCs false]) ∧
    (let s := offer tHeld .deassertCs []
     s.Inv ∧ s.takeInput.env.rstN = true ∧ s.hstate = .ready ∧ s.csAsserted = true ∧
      step s = .next (stepTo s) ∧
      (stepTo s).env.trace = s.env.trace ++ [setl s.handle.pinCs true]) ∧
    (let s := tRead0
     s.Inv ∧ s.takeInput.env.rstN = true ∧ s.hstate ≠ .uninitialized ∧ step s = .next (stepTo s) ∧
      (stepTo s).env.trace = s.env.trace ++ [setl 14 false]) :=
  ⟨⟨inv_of_idle rfl (by decide) rfl (by decide) (fun _ => rfl) (by decide) rfl rfl (by decide), rfl,
      by decide, rfl, rfl⟩,
    ⟨inv_of_idle rfl (by decide) rfl (fun _ => rfl) (fun _ => rfl) (by decide) rfl rfl (by decide), rfl,
      rfl, rfl, rfl, rfl⟩,
    ⟨inv_tRead0, rfl, by decide, rfl, rfl⟩⟩

/-- A failed release, a release after a failure, and INIT's failed `SETL(PIN_CS, HIGH)`. -/
theorem witness_CsFaultOnlyFromFailedRelease :
    (tReadRelease.Inv ∧ tReadRelease.takeInput.env.rstN = true ∧ tReadRelease.busy = true ∧
      tReadRelease.sq.phase = .release ∧ tReadRelease.outcome.failed = true ∧
      ∃ t, step tReadRelease = .next t) ∧
    (tReadCleanup.Inv ∧ tReadCleanup.takeInput.env.rstN = true ∧ tReadCleanup.busy = true ∧
      tReadCleanup.sq.phase = .cleanup .primTimeout 96 ∧ ∃ t, step tReadCleanup = .next t) ∧
    (tInit1.Inv ∧ tInit1.takeInput.env.rstN = true ∧ step tInit1 = .next (stepTo tInit1) ∧
      (stepTo tInit1).csFault = true ∧ (stepTo tInit1).errInfo = 0x0102) :=
  ⟨⟨inv_tReadRelease, rfl, rfl, rfl, rfl, _, rfl⟩, ⟨inv_tReadCleanup, rfl, rfl, rfl, _, rfl⟩,
    inv_tInit1, rfl, rfl, rfl, rfl⟩

end Sys2Proof.Tests
end

/-! SUPPORT. HSTATE moves only as rule R22 lists, and always then (O56). -/

namespace Sys2Proof.Machine

/-! ## The latched words

No command writes CMD_L or OPND_L (R35): after a step they still name the command that ran. -/

/-- `t` holds the latched words of `s`. -/
def SameLatch (s t : State) : Prop := t.sq.cmdL = s.sq.cmdL ∧ t.sq.opndL = s.sq.opndL

theorem initBegin_sameLatch (h : HandleConfig) (s : State) : SameLatch s (initBegin h s) := by
  unfold initBegin
  split_ifs <;> exact ⟨rfl, rfl⟩

theorem initResume_sameLatch (s : State) : SameLatch s (initResume s) := by
  obtain ⟨_, _, _, e⟩ | ⟨_, _, _, _, _, e⟩ | ⟨_, e⟩ := initResume_cases s <;>
    rw [e] <;> exact ⟨rfl, rfl⟩

theorem teardownBegin_sameLatch (s : State) : SameLatch s (teardownBegin s) := by
  unfold teardownBegin
  split_ifs <;> exact ⟨rfl, rfl⟩

theorem assertCsBegin_sameLatch (s : State) : SameLatch s (assertCsBegin s) := by
  unfold assertCsBegin
  split_ifs <;> exact ⟨rfl, rfl⟩

theorem assertCsResume_sameLatch (s : State) : SameLatch s (assertCsResume s) := by
  unfold assertCsResume
  split
  · exact ⟨rfl, rfl⟩
  · exact ⟨rfl, rfl⟩
  · split <;> exact ⟨rfl, rfl⟩

theorem deassertCsBegin_sameLatch (s : State) : SameLatch s (deassertCsBegin s) := by
  unfold deassertCsBegin
  split_ifs <;> exact ⟨rfl, rfl⟩

theorem readRegBegin_sameLatch (a : RegAddr) (s : State) : SameLatch s (readRegBegin a s) := by
  unfold readRegBegin
  split_ifs <;> exact ⟨rfl, rfl⟩

theorem writeRegBegin_sameLatch (a : RegAddr) (v : Word16) (s : State) :
    SameLatch s (writeRegBegin a v s) := by
  unfold writeRegBegin
  split_ifs <;> exact ⟨rfl, rfl⟩

theorem State.advance_sameLatch (s : State) : SameLatch s s.advance := by
  obtain ⟨_, _, _, _, e⟩ | ⟨_, e⟩ := s.advance_cases <;> rw [e] <;> exact ⟨rfl, rfl⟩

theorem State.transactionResume_sameLatch {commit abort : State → State}
    (hc : ∀ u, SameLatch u (commit u)) (ha : ∀ u, SameLatch u (abort u)) (s : State) :
    SameLatch s (s.transactionResume commit abort) := by
  obtain ⟨_, _, _, e⟩ | ⟨_, e⟩ | ⟨_, _, _, e⟩ | ⟨_, _, e⟩ := s.transactionResume_cases commit abort <;>
    rw [e]
  · exact ha _
  · exact hc _
  · exact State.advance_sameLatch _
  · exact ⟨rfl, rfl⟩

theorem State.completeScale_sameLatch (ans : ScaleAnswer) (s : State) :
    SameLatch s (s.completeScale ans) := by
  cases ans <;> exact ⟨rfl, rfl⟩

/-- Running a command leaves CMD_L and OPND_L as they were. -/
theorem exec_sameLatch {i : Instr} {s t : State} (h : exec i s = .next t) : SameLatch s t := by
  cases i <;> cases h
  case init =>
    split
    · exact initResume_sameLatch s
    · exact initBegin_sameLatch _ s
  case teardown =>
    split
    · exact ⟨rfl, rfl⟩
    · exact teardownBegin_sameLatch s
  case assertCs =>
    split
    · exact assertCsResume_sameLatch s
    · exact assertCsBegin_sameLatch s
  case deassertCs =>
    split
    · exact ⟨rfl, rfl⟩
    · exact deassertCsBegin_sameLatch s
  case readReg a =>
    split
    · exact State.transactionResume_sameLatch (commit := State.commitRead)
        (abort := State.clearRead) (fun _ => ⟨rfl, rfl⟩) (fun _ => ⟨rfl, rfl⟩) s
    · exact readRegBegin_sameLatch a s
  case writeReg a v =>
    split
    · exact State.transactionResume_sameLatch (fun _ => ⟨rfl, rfl⟩) (fun _ => ⟨rfl, rfl⟩) s
    · exact writeRegBegin_sameLatch a v s
  case scale => exact State.completeScale_sameLatch _ s
  case scaleRd =>
    split_ifs
    · exact ⟨rfl, rfl⟩
    · exact ⟨rfl, rfl⟩
    · exact State.completeScale_sameLatch _ s
  case setLsb => split <;> exact ⟨rfl, rfl⟩
  case setTempOffset => exact ⟨rfl, rfl⟩

/-! ## What a command does to HSTATE -/

/-- `i` is an INIT. -/
def IsInit (i : Instr) : Prop :=
  ∃ budget cs dr rst dout din sclk clksel, i = .init budget cs dr rst dout din sclk clksel

/-- Running `i` from `s` to `t` is one of the four events that must change HSTATE (R22). -/
def HandleMoveDue (i : Instr) (s t : State) : Prop :=
  (s.hstate = .uninitialized ∧ IsInit i ∧ t.rspValid = true ∧ t.status = .ok) ∨
  (s.hstate = .ready ∧ IsTransaction i ∧ t.env.trace ≠ s.env.trace) ∨
  (s.hstate = .transacting ∧ t.busy = false) ∨
  (s.hstate = .ready ∧ i = .teardown ∧ t.rspValid = true)

/-- What running `i` from `s` to `t` does to HSTATE (R22): it keeps it where no move is due, or makes
one of the four moves. -/
inductive HandleEffect (i : Instr) (s t : State) : Prop
  | keeps (same : t.hstate = s.hstate) (notDue : ¬ HandleMoveDue i s t)
  | binds (before : s.hstate = .uninitialized) (after : t.hstate = .ready) (done : t.busy = false)
      (ok : t.status = .ok) (init : IsInit i)
  | starts (before : s.hstate = .ready) (after : t.hstate = .transacting) (busy : t.busy = true)
      (transaction : IsTransaction i)
      (issued : t.env.trace = s.env.trace ++ [setl s.handle.pinCs .low])
  | ends (before : s.hstate = .transacting) (after : t.hstate = .ready) (done : t.busy = false)
      (transaction : IsTransaction i)
  | closes (before : s.hstate = .ready) (after : t.hstate = .closed) (done : t.busy = false)
      (teardown : i = .teardown)

/-- The effect depends on the first state only through HSTATE, the handle and the trace. -/
theorem HandleEffect.congr {i : Instr} {s s' t : State} (e : HandleEffect i s' t)
    (hh : s'.hstate = s.hstate) (hc : s'.handle = s.handle) (ht : s'.env.trace = s.env.trace) :
    HandleEffect i s t := by
  cases e with
  | keeps same notDue =>
    exact .keeps (same.trans hh) (by simpa only [HandleMoveDue, hh, ht] using notDue)
  | binds b a d o n => exact .binds (hh ▸ b) a d o n
  | starts b a y r o => exact .starts (hh ▸ b) a y r (by rw [o, ht, hc])
  | ends b a d r => exact .ends (hh ▸ b) a d r
  | closes b a d r => exact .closes (hh ▸ b) a d r

/-- A command that is no INIT, transaction or TEARDOWN has no move to make outside TRANSACTING. -/
theorem HandleEffect.of_other {i : Instr} {s t : State} (hi : ¬ IsInit i) (hx : ¬ IsTransaction i)
    (hd : i ≠ .teardown) (ht : s.hstate ≠ .transacting) (same : t.hstate = s.hstate) :
    HandleEffect i s t :=
  .keeps same (by simp [HandleMoveDue, hi, hx, hd, ht])

/-- A completion that keeps HSTATE and issues nothing: no INIT's success and no TEARDOWN in READY. -/
theorem HandleEffect.of_complete {i : Instr} {s u : State} {st : Status} {c : Cause} {k : BitVec 8}
    (hh : u.hstate = s.hstate) (htr : u.env.trace = s.env.trace) (ht : s.hstate ≠ .transacting)
    (hi : IsInit i → st ≠ .ok) (hd : i = .teardown → s.hstate ≠ .ready) :
    HandleEffect i s (u.complete st c k) := by
  refine .keeps hh ?_
  rintro (⟨-, h, -, ok⟩ | ⟨-, -, h⟩ | ⟨h, -⟩ | ⟨h, d, -⟩)
  · exact hi h ok
  · exact h htr
  · exact ht h
  · exact hd d h

/-- A primitive issued by a command that is still running, with HSTATE kept: only a transaction in
READY would have a move to make. -/
theorem HandleEffect.of_running {i : Instr} {s t : State} (hh : t.hstate = s.hstate)
    (hb : t.busy = true) (hr : t.rspValid = false) (hx : IsTransaction i → s.hstate ≠ .ready) :
    HandleEffect i s t := by
  refine .keeps hh ?_
  rintro (⟨-, -, r, -⟩ | ⟨h, x, -⟩ | ⟨-, b⟩ | ⟨-, -, r⟩)
  · simp [hr] at r
  · exact hx x h
  · simp [hb] at b
  · simp [hr] at r

theorem isInit_init (budget : BitVec 16) (cs dr rst dout din sclk : PinId) (clksel : BitVec 4) :
    IsInit (.init budget cs dr rst dout din sclk clksel) :=
  ⟨budget, cs, dr, rst, dout, din, sclk, clksel, rfl⟩

theorem isTransaction_readReg (a : RegAddr) : IsTransaction (.readReg a) := trivial

theorem isTransaction_writeReg (a : RegAddr) (v : Word16) : IsTransaction (.writeReg a v) := trivial

theorem IsTransaction.not_isInit {i : Instr} (h : IsTransaction i) : ¬ IsInit i := by
  rintro ⟨_, _, _, _, _, _, _, _, rfl⟩
  exact h

theorem IsTransaction.ne_teardown {i : Instr} (h : IsTransaction i) : i ≠ .teardown := by
  rintro rfl
  exact h

theorem IsInit.ne_teardown {i : Instr} (h : IsInit i) : i ≠ .teardown := by
  rintro rfl
  obtain ⟨_, _, _, _, _, _, _, _, e⟩ := h
  cases e

/-! ### Commands that never move HSTATE -/

@[simp] theorem assertCsBegin_hstate (s : State) : (assertCsBegin s).hstate = s.hstate := by
  unfold assertCsBegin
  split_ifs <;> rfl

@[simp] theorem assertCsResume_hstate (s : State) : (assertCsResume s).hstate = s.hstate := by
  unfold assertCsResume
  split
  · rfl
  · rfl
  · split <;> rfl

@[simp] theorem deassertCsBegin_hstate (s : State) : (deassertCsBegin s).hstate = s.hstate := by
  unfold deassertCsBegin
  split_ifs <;> rfl

@[simp] theorem State.completeScale_hstate (ans : ScaleAnswer) (s : State) :
    (s.completeScale ans).hstate = s.hstate := by
  cases ans <;> rfl

/-- Only INIT, READ_REG, WRITE_REG and TEARDOWN write HSTATE. -/
theorem exec_hstate_of_other {i : Instr} {s t : State} (hi : ¬ IsInit i) (hx : ¬ IsTransaction i)
    (hd : i ≠ .teardown) (h : exec i s = .next t) : t.hstate = s.hstate := by
  cases i <;> cases h
  case init => exact absurd (isInit_init ..) hi
  case teardown => exact absurd rfl hd
  case readReg => exact absurd trivial hx
  case writeReg => exact absurd trivial hx
  case assertCs =>
    split
    · exact assertCsResume_hstate s
    · exact assertCsBegin_hstate s
  case deassertCs =>
    split
    · rfl
    · exact deassertCsBegin_hstate s
  case scale => exact State.completeScale_hstate _ s
  case scaleRd =>
    split_ifs
    · rfl
    · rfl
    · exact State.completeScale_hstate _ s
  case setLsb => split <;> rfl
  case setTempOffset => rfl

/-- Those other commands keep HSTATE and have no move to make, at their acceptance and resumed. -/
theorem exec_handleEffect_of_other {i : Instr} {s t : State} (hi : ¬ IsInit i)
    (hx : ¬ IsTransaction i) (hd : i ≠ .teardown) (ht : s.hstate ≠ .transacting)
    (h : exec i s = .next t) : HandleEffect i s t :=
  .of_other hi hx hd ht (exec_hstate_of_other hi hx hd h)

/-! ### At the acceptance -/

/-- READY is what the checks of R140, R150 and R205 leave at an acceptance (R210). -/
theorem HState.eq_ready {h : HState} (hc : h ≠ .closed) (hu : h ≠ .uninitialized)
    (ht : h ≠ .transacting) : h = .ready := by
  cases h with
  | uninitialized => exact absurd rfl hu
  | ready => rfl
  | transacting => exact absurd rfl ht
  | closed => exact absurd rfl hc

section
variable {s : State} (hb : s.busy = true) (ht : s.hstate ≠ .transacting)
include hb ht

/-- INIT at its acceptance fails a check, or goes on: HSTATE stays either way (R200). -/
theorem initBegin_handleEffect {i : Instr} (hr : s.rspValid = false) (hi : IsInit i)
    (h : HandleConfig) : HandleEffect i s (initBegin h s) := by
  have fails {st : Status} {c : Cause} (hne : st ≠ .ok) : HandleEffect i s (s.complete st c 0) :=
    .of_complete rfl rfl ht (fun _ => hne) (fun d => absurd d hi.ne_teardown)
  unfold initBegin
  split_ifs
  · exact fails nofun
  · exact fails nofun
  · exact fails nofun
  · exact fails nofun
  · exact fails nofun
  · exact fails nofun
  · exact .of_running rfl hb hr fun x => absurd hi x.not_isInit

/-- TEARDOWN at its acceptance in READY closes the handle, or first issues the release (R205). -/
theorem teardownBegin_handleEffect (hr : s.rspValid = false) :
    HandleEffect .teardown s (teardownBegin s) := by
  unfold teardownBegin
  split_ifs with hc hu
  · exact .of_complete rfl rfl ht (fun _ => nofun) (fun _ => by simp [hc])
  · exact .of_complete rfl rfl ht (fun _ => nofun) (fun _ => by simp [hu])
  · exact .of_running rfl hb hr nofun
  · exact .closes (HState.eq_ready hc hu ht) rfl rfl rfl

/-- A transaction that has passed its checks in READY becomes TRANSACTING with primitive 0 (R22). -/
theorem startTransaction_handleEffect {i : Instr} (hx : IsTransaction i) (hc : s.hstate ≠ .closed)
    (hu : s.hstate ≠ .uninitialized) (rest : List Request) :
    HandleEffect i s (s.startTransaction (setl s.handle.pinCs .low :: rest)) :=
  .starts (HState.eq_ready hc hu ht) rfl hb hx rfl

omit hb in
/-- A transaction that fails a check keeps HSTATE. -/
theorem failedCheck_handleEffect {i : Instr} (hx : IsTransaction i) {u : State} {st : Status}
    {c : Cause} (hh : u.hstate = s.hstate) (htr : u.env.trace = s.env.trace) :
    HandleEffect i s (u.complete st c 0) :=
  .of_complete hh htr ht (fun h => absurd h hx.not_isInit) (fun d => absurd d hx.ne_teardown)

/-- READ_REG at its acceptance fails a check, or starts (R140). -/
theorem readRegBegin_handleEffect (a : RegAddr) :
    HandleEffect (.readReg a) s (readRegBegin a s) := by
  have hx := isTransaction_readReg a
  unfold readRegBegin
  split_ifs with hc hu
  · exact failedCheck_handleEffect ht hx rfl rfl
  · exact failedCheck_handleEffect ht hx rfl rfl
  · exact failedCheck_handleEffect ht hx rfl rfl
  · exact failedCheck_handleEffect ht hx rfl rfl
  · exact startTransaction_handleEffect hb ht hx hc hu _

/-- WRITE_REG at its acceptance fails a check, or starts (R150). -/
theorem writeRegBegin_handleEffect (a : RegAddr) (v : Word16) :
    HandleEffect (.writeReg a v) s (writeRegBegin a v s) := by
  have hx := isTransaction_writeReg a v
  unfold writeRegBegin
  split_ifs with hc hu
  · exact failedCheck_handleEffect ht hx rfl rfl
  · exact failedCheck_handleEffect ht hx rfl rfl
  · exact failedCheck_handleEffect ht hx rfl rfl
  · exact failedCheck_handleEffect ht hx rfl rfl
  · exact startTransaction_handleEffect hb ht hx hc hu _

/-- What a command does to HSTATE at its acceptance. -/
theorem exec_handleEffect_of_accepted {i : Instr} {t : State} (hr : s.rspValid = false)
    (hp : s.sq.primPending = false) (h : exec i s = .next t) : HandleEffect i s t := by
  cases i with
  | init =>
    rw [exec_init, hp] at h; cases h
    exact initBegin_handleEffect hb ht hr (isInit_init ..) _
  | teardown =>
    rw [exec_teardown, hp] at h; cases h
    exact teardownBegin_handleEffect hb ht hr
  | readReg a =>
    rw [exec_readReg, hp] at h; cases h
    exact readRegBegin_handleEffect hb ht a
  | writeReg a v =>
    rw [exec_writeReg, hp] at h; cases h
    exact writeRegBegin_handleEffect hb ht a v
  | _ => exact exec_handleEffect_of_other (by simp [IsInit]) id nofun ht h

end

/-! ### With a primitive in flight -/

section
variable {s : State} (hb : s.busy = true) (hr : s.rspValid = false)
include hb hr

/-- INIT's primitive in flight has its outcome: READY at the last OK, kept otherwise (R200). -/
theorem initResume_handleEffect {i : Instr} (hi : IsInit i) (hs : s.hstate = .uninitialized) :
    HandleEffect i s (initResume s) := by
  obtain ⟨_, _, _, e⟩ | ⟨_, _, _, _, _, e⟩ | ⟨_, e⟩ := initResume_cases s <;> rw [e]
  · exact .binds hs rfl rfl rfl hi
  · exact .of_running rfl hb hr fun x => absurd hi x.not_isInit
  · exact .of_complete rfl (by simp) (by simp [hs]) (fun _ => nofun)
      (fun d => absurd d hi.ne_teardown)

/-- A transaction's primitive in flight has its outcome: READY when the release has, successful or
not, and kept before that (R136, R137). -/
theorem transactionResume_handleEffect {i : Instr} {commit abort : State → State}
    (hc : ∀ u, (commit u).hstate = u.hstate) (ha : ∀ u, (abort u).hstate = u.hstate)
    (hx : IsTransaction i) (hs : s.hstate = .transacting) :
    HandleEffect i s (s.transactionResume commit abort) := by
  have more {t : State} (hh : t.hstate = s.hstate) (hb : t.busy = true) (hr : t.rspValid = false) :
      HandleEffect i s t := .of_running hh hb hr (fun _ => by simp [hs])
  obtain ⟨_, _, _, e⟩ | ⟨_, e⟩ | ⟨l, _, _, e⟩ | ⟨_, _, e⟩ :=
    s.transactionResume_cases commit abort <;> rw [e]
  · exact .ends hs (ha _) rfl hx
  · exact .ends hs (hc _) rfl hx
  · obtain ⟨_, _, _, _, e⟩ | ⟨_, e⟩ := (s.settle.absorb l).advance_cases <;> rw [e] <;>
      exact more rfl hb hr
  · exact more rfl hb hr

/-- What a running command does to HSTATE when its primitive in flight has its outcome. -/
theorem exec_handleEffect_of_running {i : Instr} {t : State} (hp : s.sq.primPending = true)
    (hR : Running s i) (h : exec i s = .next t) : HandleEffect i s t := by
  cases i with
  | init =>
    rw [exec_init, hp] at h; cases h
    exact initResume_handleEffect hb hr (isInit_init ..) hR.1
  | teardown =>
    rw [exec_teardown, hp] at h; cases h
    exact .closes hR.1 rfl rfl rfl
  | assertCs => exact exec_handleEffect_of_other (by simp [IsInit]) id nofun (by simp [hR.1]) h
  | deassertCs => exact exec_handleEffect_of_other (by simp [IsInit]) id nofun (by simp [hR.1]) h
  | readReg a =>
    rw [exec_readReg, hp] at h; cases h
    exact transactionResume_handleEffect (commit := State.commitRead) (abort := State.clearRead)
      hb hr (fun _ => rfl) (fun _ => rfl) (isTransaction_readReg a) hR.1
  | writeReg a v =>
    rw [exec_writeReg, hp] at h; cases h
    exact transactionResume_handleEffect hb hr (fun _ => rfl) (fun _ => rfl)
      (isTransaction_writeReg a v) hR.1
  | _ => exact hR.elim

end

/-! ## What a step does to HSTATE -/

/-- A step out of reset runs the command in the latched words, or it is idle or completes an illegal
word: then HSTATE is not TRANSACTING and stays, and no command has a move to make. -/
theorem step_handleEffect {s t : State} (hinv : s.Inv) (hn : s.takeInput.env.rstN = true)
    (h : step s = .next t) :
    (∃ i, decode t.sq.cmdL t.sq.opndL = .command i ∧ HandleEffect i s t) ∨
    (s.hstate ≠ .transacting ∧ t.hstate = s.hstate ∧
      ∀ i, decode t.sq.cmdL t.sq.opndL = .command i → ¬ HandleMoveDue i s t) := by
  obtain ⟨hr, -⟩ | ⟨-, hb, i, hd, he⟩ | ⟨-, hb, c, hd, -⟩ | ⟨-, hb, -, rfl⟩ |
    ⟨-, hb, cmd, opnd, rest, i, -, hd, he⟩ | ⟨-, hb, cmd, opnd, rest, c, -, hd, rfl⟩ := step_cases h
  · simp [hn] at hr
  · obtain ⟨hp, j, hj, hR⟩ := hinv.running hb
    obtain rfl : j = i := by simpa [hj] using hd
    obtain ⟨hc, ho⟩ := exec_sameLatch he
    refine .inl ⟨j, by rw [hc, ho]; exact hj, ?_⟩
    have e := exec_handleEffect_of_running (s := s.takeInput.lowerRsp)
      hb rfl hp hR.takeInput.lowerRsp he
    exact e.congr rfl rfl (by simp)
  · obtain ⟨-, j, hj, -⟩ := hinv.running hb
    simp [hj] at hd
  · obtain ⟨ht, -⟩ := hinv.idle hb
    exact .inr ⟨ht, rfl, fun i _ => by simp [HandleMoveDue, ht]⟩
  · obtain ⟨ht, -⟩ := hinv.idle hb
    obtain ⟨hc, ho⟩ := exec_sameLatch he
    refine .inl ⟨i, by rw [hc, ho]; exact hd, ?_⟩
    have e := exec_handleEffect_of_accepted (s := s.takeInput.accept cmd opnd rest)
      rfl ht rfl rfl he
    exact e.congr rfl rfl (by simp)
  · obtain ⟨ht, -⟩ := hinv.idle hb
    exact .inr ⟨ht, rfl, fun i hi => by simp [State.completeIllegal, hd] at hi⟩

/-- A step out of reset in which the latched command has a move to make runs that command. -/
theorem step_handleEffect_of_due {s t : State} {i : Instr} (hinv : s.Inv)
    (hn : s.takeInput.env.rstN = true) (h : step s = .next t)
    (hd : decode t.sq.cmdL t.sq.opndL = .command i) (due : HandleMoveDue i s t) :
    HandleEffect i s t := by
  obtain ⟨j, hj, e⟩ | ⟨-, -, notDue⟩ := step_handleEffect hinv hn h
  · obtain rfl : j = i := by simpa [hj] using hd
    exact e
  · exact absurd due (notDue i hd)

/-! ## The moves that are due -/

section
variable {i : Instr} {s t : State} (e : HandleEffect i s t) (due : HandleMoveDue i s t)
include e due

/-- A move that is due outside READY, at a successful INIT or at a transaction's completion, leads to
READY. -/
theorem HandleEffect.ready_of_due (hs : s.hstate ≠ .ready) : t.hstate = .ready := by
  cases e with
  | keeps _ notDue => exact absurd due notDue
  | binds _ after => exact after
  | starts before => exact absurd before hs
  | ends _ after => exact after
  | closes before => exact absurd before hs

/-- A transaction's move that is due in READY leads to TRANSACTING. -/
theorem HandleEffect.transacting_of_due (hs : s.hstate = .ready) (hx : IsTransaction i) :
    t.hstate = .transacting := by
  cases e with
  | keeps _ notDue => exact absurd due notDue
  | binds before => simp [hs] at before
  | starts _ after => exact after
  | ends before => simp [hs] at before
  | closes _ _ _ td => exact absurd td hx.ne_teardown

/-- TEARDOWN's move that is due in READY leads to CLOSED. -/
theorem HandleEffect.closed_of_due (hs : s.hstate = .ready) (hd : i = .teardown) :
    t.hstate = .closed := by
  cases e with
  | keeps _ notDue => exact absurd due notDue
  | binds before => simp [hs] at before
  | starts _ _ _ hx => exact absurd hd hx.ne_teardown
  | ends before => simp [hs] at before
  | closes _ after => exact after

end

/-! ## The statement -/

/-- Block reset leaves UNINITIALIZED (R41, R260). -/
theorem step_hstate_of_reset {s t : State} (hn : s.takeInput.env.rstN = false)
    (h : step s = .next t) : t.hstate = .uninitialized := by
  have e : step s = .next s.takeInput.holdReset := if_pos hn
  cases e.symm.trans h
  rfl

/-- Settles O56: a step runs the latched command, whose effect on HSTATE is one of R22's moves exactly
where that move is due. -/
theorem handleStateTransitions : Obligations.HandleStateTransitions := by
  refine ⟨⟨rfl, rfl, rfl, rfl⟩, fun s t hinv h => ⟨fun hn => step_hstate_of_reset hn h, fun hn => ?_⟩,
    fun s t hinv hn h => ⟨?_, ?_, ?_, ?_⟩⟩
  · obtain ⟨i, hd, e⟩ | ⟨-, same, -⟩ := step_handleEffect hinv hn h
    · cases e with
      | keeps same => exact .inl same
      | binds b a d ok hi => exact .inr ⟨i, hd, .inl ⟨b, a, d, ok, hi⟩⟩
      | starts b a hb hx htr => exact .inr ⟨i, hd, .inr (.inl ⟨b, a, hb, hx, htr⟩)⟩
      | ends b a d hx => exact .inr ⟨i, hd, .inr (.inr (.inl ⟨b, a, d, hx⟩))⟩
      | closes b a d td => exact .inr ⟨i, hd, .inr (.inr (.inr ⟨b, a, d, td⟩))⟩
    · exact .inl same
  · intro budget cs dr rst dout din sclk clksel hs hd hr ok
    have due : HandleMoveDue (.init budget cs dr rst dout din sclk clksel) s t :=
      .inl ⟨hs, isInit_init .., hr, ok⟩
    exact (step_handleEffect_of_due hinv hn h hd due).ready_of_due due (by simp [hs])
  · intro i hs hd hx htr
    have due : HandleMoveDue i s t := .inr (.inl ⟨hs, hx, htr⟩)
    exact (step_handleEffect_of_due hinv hn h hd due).transacting_of_due due hs hx
  · intro hs hb
    obtain ⟨i, -, e⟩ | ⟨ht, -⟩ := step_handleEffect hinv hn h
    · exact e.ready_of_due (.inr (.inr (.inl ⟨hs, hb⟩))) (by simp [hs])
    · exact absurd hs ht
  · intro hs hd hr
    have due : HandleMoveDue .teardown s t := .inr (.inr (.inr ⟨hs, rfl, hr⟩))
    exact (step_handleEffect_of_due hinv hn h hd due).closed_of_due due hs rfl

end Sys2Proof.Machine

/-! SUPPORT. The decoder and the opcode table's rows, compared field by field (O2). -/

namespace Sys2Proof

/-! ## Masking a command word, field by field -/

/-- AND acts on each field of a command word by itself (R101). -/
theorem packCmd_and (im im' : Word16) (a a' : RegAddr) (s s' : BitVec 1) (c c' : BitVec 3)
    (o o' : BitVec 4) :
    packCmd im a s c o &&& packCmd im' a' s' c' o' =
      packCmd (im &&& im') (a &&& a') (s &&& s') (c &&& c') (o &&& o') := by
  refine BitVec.eq_of_getLsbD_eq fun j _ => ?_
  simp only [BitVec.getLsbD_and, getLsbD_packCmd]
  split_ifs <;> rfl

/-- Two command words are equal exactly when their fields are (R101). -/
theorem packCmd_inj {im im' : Word16} {a a' : RegAddr} {s s' : BitVec 1} {c c' : BitVec 3}
    {o o' : BitVec 4} :
    packCmd im a s c o = packCmd im' a' s' c' o' ↔
      im = im' ∧ a = a' ∧ s = s' ∧ c = c' ∧ o = o' := by
  refine ⟨fun h => ⟨?_, ?_, ?_, ?_, ?_⟩, fun ⟨him, ha, hs, hc, ho⟩ => by rw [him, ha, hs, hc, ho]⟩
  · simpa using congrArg fieldImm16 h
  · simpa using congrArg fieldAddr h
  · simpa using congrArg fieldSrc h
  · simpa using congrArg fieldCat h
  · simpa using congrArg fieldOp h

/-- A masked command word is its masked fields. -/
theorem and_packCmd_eq_iff (cmd : CmdWord) (im im' : Word16) (a a' : RegAddr) (s s' : BitVec 1)
    (c c' : BitVec 3) (o o' : BitVec 4) :
    cmd &&& packCmd im' a' s' c' o' = packCmd im a s c o ↔
      fieldImm16 cmd &&& im' = im ∧ fieldAddr cmd &&& a' = a ∧ fieldSrc cmd &&& s' = s ∧
        fieldCat cmd &&& c' = c ∧ fieldOp cmd &&& o' = o := by
  rw [← packCmd_inj, ← packCmd_and, packCmd_fields]

/-! ## Runs of adjacent fields, as the decoder tests them -/

/-- A run of bits is 0 exactly when its upper and its lower part are. -/
theorem extractLsb'_add_eq_zero_iff {w : Nat} (x : BitVec w) (start m n : Nat) :
    x.extractLsb' start (m + n) = 0 ↔
      x.extractLsb' (start + n) m = 0 ∧ x.extractLsb' start n = 0 := by
  rw [← BitVec.extractLsb'_append_extractLsb'_eq_extractLsb' rfl]
  refine ⟨fun h => ⟨?_, ?_⟩, fun ⟨hu, hl⟩ => by rw [hu, hl]; exact BitVec.zero_append_zero⟩
  · rw [← BitVec.extractLsb'_append_eq_left (a := x.extractLsb' (start + n) m), h]
    exact BitVec.extractLsb'_zero
  · rw [← BitVec.extractLsb'_append_eq_right (b := x.extractLsb' start n), h]
    exact BitVec.extractLsb'_zero

/-- CMD[7:4] is SRC and CAT. -/
@[simp] theorem extractLsb'_4_4_eq_zero_iff (cmd : CmdWord) :
    cmd.extractLsb' 4 4 = 0#4 ↔ fieldSrc cmd = 0 ∧ fieldCat cmd = 0 :=
  extractLsb'_add_eq_zero_iff cmd 4 1 3

/-- CMD[31:7] is IMM16, ADDR and SRC. -/
@[simp] theorem extractLsb'_7_25_eq_zero_iff (cmd : CmdWord) :
    cmd.extractLsb' 7 25 = 0#25 ↔ fieldImm16 cmd = 0 ∧ fieldAddr cmd = 0 ∧ fieldSrc cmd = 0 :=
  (extractLsb'_add_eq_zero_iff cmd 7 16 9).trans
    (and_congr_right' (extractLsb'_add_eq_zero_iff cmd 7 8 1))

/-- CMD[31:4] is every field but OP. -/
@[simp] theorem extractLsb'_4_28_eq_zero_iff (cmd : CmdWord) :
    cmd.extractLsb' 4 28 = 0#28 ↔
      fieldImm16 cmd = 0 ∧ fieldAddr cmd = 0 ∧ fieldSrc cmd = 0 ∧ fieldCat cmd = 0 := by
  rw [← extractLsb'_4_4_eq_zero_iff]
  exact (extractLsb'_add_eq_zero_iff cmd 4 16 12).trans
    (and_congr_right' (extractLsb'_add_eq_zero_iff cmd 4 8 4))

/-! ## A row of the table, by fields -/

/-- The mask of a row without free fields. -/
abbrev fullMask : CmdWord :=
  packCmd (.allOnes 16) (.allOnes 8) (.allOnes 1) (.allOnes 3) (.allOnes 4)

/-- Match and mask of the row of `i`, laid out by fields: the mask covers OP, SRC and every other
field that is not free (R105). -/
def rowPattern : Instr → CmdWord × CmdWord
  | .init .. => (packCmd 0 0 0 0 0x1, packCmd 0 (.allOnes 8) (.allOnes 1) (.allOnes 3) (.allOnes 4))
  | .teardown => (packCmd 0 0 0 0 0x2, fullMask)
  | .assertCs => (packCmd 0 0 0 0 0x3, fullMask)
  | .deassertCs => (packCmd 0 0 0 0 0x4, fullMask)
  | .readReg _ =>
      (packCmd 0 0 0 0 0x5, packCmd (.allOnes 16) 0 (.allOnes 1) (.allOnes 3) (.allOnes 4))
  | .writeReg .. => (packCmd 0 0 0 0 0x6, packCmd 0 0 (.allOnes 1) (.allOnes 3) (.allOnes 4))
  | .scale .. => (packCmd 0 0 0 0 0x7, packCmd 0 (.allOnes 8) (.allOnes 1) 0 (.allOnes 4))
  | .scaleRd _ =>
      (packCmd 0 0 1 0 0x7, packCmd (.allOnes 16) (.allOnes 8) (.allOnes 1) 0 (.allOnes 4))
  | .setLsb .. =>
      (packCmd 0 0 0 0 0x8, packCmd (.allOnes 16) (.allOnes 8) (.allOnes 1) 0 (.allOnes 4))
  | .setTempOffset _ => (packCmd 0 0 0 0 0x9, fullMask)

/-- The table's numbers are these fields. -/
theorem tableRow_eq_rowPattern (i : Instr) : tableRow i = rowPattern i := by
  cases i <;> rfl

/-- The fields of `cmd` are what the row of `i` fixes: its OP, and 0 in every field that is not free,
but SRC = 1 for SCALE.RD (R105). Runs of fields stand as the decoder tests them (R106). -/
def RowFields (cmd : CmdWord) : Instr → Prop
  | .init .. => fieldAddr cmd = 0 ∧ fieldSrc cmd = 0 ∧ fieldCat cmd = 0 ∧ fieldOp cmd = 0x1
  | .teardown => cmd.extractLsb' 4 28 = 0 ∧ fieldOp cmd = 0x2
  | .assertCs => cmd.extractLsb' 4 28 = 0 ∧ fieldOp cmd = 0x3
  | .deassertCs => cmd.extractLsb' 4 28 = 0 ∧ fieldOp cmd = 0x4
  | .readReg _ => fieldImm16 cmd = 0 ∧ cmd.extractLsb' 4 4 = 0 ∧ fieldOp cmd = 0x5
  | .writeReg .. => cmd.extractLsb' 4 4 = 0 ∧ fieldOp cmd = 0x6
  | .scale .. => fieldAddr cmd = 0 ∧ fieldSrc cmd = 0 ∧ fieldOp cmd = 0x7
  | .scaleRd _ => fieldImm16 cmd = 0 ∧ fieldAddr cmd = 0 ∧ fieldSrc cmd = 1 ∧ fieldOp cmd = 0x7
  | .setLsb .. => cmd.extractLsb' 7 25 = 0 ∧ fieldOp cmd = 0x8
  | .setTempOffset _ => cmd.extractLsb' 4 28 = 0 ∧ fieldOp cmd = 0x9

/-- A word matches a row exactly when its fields are what the row fixes. -/
theorem and_mask_eq_match_iff (cmd : CmdWord) (i : Instr) :
    cmd &&& (tableRow i).2 = (tableRow i).1 ↔ RowFields cmd i := by
  rw [tableRow_eq_rowPattern]
  cases i <;>
    simp only [rowPattern, fullMask, RowFields, and_packCmd_eq_iff, BitVec.ofNat_eq_ofNat,
      BitVec.and_allOnes, BitVec.and_zero, extractLsb'_4_4_eq_zero_iff,
      extractLsb'_7_25_eq_zero_iff, extractLsb'_4_28_eq_zero_iff, true_and, and_assoc]

/-! ## The decoder and the rows -/

/-- A word that decodes to a command has the fields of that command's row. -/
theorem rowFields_of_decode {cmd : CmdWord} {opnd : OpndWord} {i : Instr}
    (h : decode cmd opnd = .command i) : RowFields cmd i := by
  revert h
  fun_cases decode cmd opnd <;> rintro ⟨⟩
  case case16 hop haddr hsrc himm =>
    have src_one : fieldSrc cmd = 1 := (BitVec.eq_zero_or_eq_one _).resolve_left hsrc
    exact ⟨not_not.mp himm, not_not.mp haddr, src_one, hop⟩
  all_goals simp_all [RowFields]

/-- A word with the fields of a row, for INIT under an OPND whose reserved bits are 0, decodes to a
command of that row. -/
theorem decode_of_rowFields {cmd : CmdWord} (opnd : OpndWord) {i : Instr} (h : RowFields cmd i)
    (hp : fieldOp cmd = 0x1 → opnd.extractLsb' 52 12 = 0) :
    ∃ j, decode cmd opnd = .command j ∧ tableRow j = tableRow i := by
  cases i <;>
    · simp only [RowFields] at h
      simp [decode, h, tableRow, hp]

/-- No word has the fields of two rows: it would decode, with OPND = 0, to commands of both. -/
theorem tableRow_eq_of_rowFields {cmd : CmdWord} {i j : Instr} (hi : RowFields cmd i)
    (hj : RowFields cmd j) : tableRow i = tableRow j := by
  obtain ⟨c, hc, rowc⟩ := decode_of_rowFields 0 hi fun _ => rfl
  obtain ⟨d, hd, rowd⟩ := decode_of_rowFields 0 hj fun _ => rfl
  have same : c = d := Decoded.command.inj (hc.symm.trans hd)
  rw [← rowc, same, rowd]

/-- Settles O2: by fields, a row is what the decoder tests, and the decoder is a function. -/
theorem decodeMatchesOpcodeTable : Obligations.DecodeMatchesOpcodeTable := by
  refine ⟨fun cmd opnd i h => ?_, fun cmd opnd i hi hp => ?_, fun cmd i j hi hj => ?_⟩
  · exact (and_mask_eq_match_iff cmd i).mpr (rowFields_of_decode h)
  · exact decode_of_rowFields opnd ((and_mask_eq_match_iff cmd i).mp hi) hp
  · rw [and_mask_eq_match_iff] at hi hj
    exact tableRow_eq_of_rowFields hi hj

end Sys2Proof

/-! SUPPORT. The request word bit by bit (O28). -/

namespace Sys2Proof.Machine

/-- Every bit of the request word (R131): RW on top, then a[6:0], then eight zeros. -/
theorem getLsbD_reqWord (d : Direction) (a : RegAddr) (j : Nat) :
    (reqWord d a).getLsbD j =
      if j < 8 then false else if j < 15 then a.getLsbD (j - 8) else decide (j = 15 ∧ d = .write) := by
  have rw_bit (k : Nat) : d.bit.getLsbD k = decide (k = 0 ∧ d = .write) := by
    cases d <;> simp [Direction.bit]
  simp only [reqWord, BitVec.truncate_eq_setWidth, BitVec.getLsbD_or, BitVec.getLsbD_shiftLeft,
    BitVec.getLsbD_setWidth, BitVec.getLsbD_extractLsb', rw_bit]
  grind

/-- REQ[14:8] is a[6:0]. -/
theorem reqWord_address (d : Direction) (a : RegAddr) :
    (reqWord d a).extractLsb' 8 7 = a.extractLsb' 0 7 := by
  refine BitVec.eq_of_getLsbD_eq fun j hj => ?_
  rw [BitVec.getLsbD_extractLsb', BitVec.getLsbD_extractLsb', getLsbD_reqWord]
  grind

/-- REQ[7:0] is 0. -/
theorem reqWord_low (d : Direction) (a : RegAddr) : (reqWord d a).extractLsb' 0 8 = 0 := by
  refine BitVec.eq_of_getLsbD_eq fun j hj => ?_
  rw [BitVec.getLsbD_extractLsb', getLsbD_reqWord]
  simp [hj]

/-- Settles O28: the bits of the request word, and an address below 0x80 is its own a[6:0]. -/
theorem requestWordLayout : Obligations.RequestWordLayout := by
  refine fun a => ⟨?_, ?_, fun d => ⟨reqWord_address d a, reqWord_low d a⟩, fun ha d => ?_, rfl, rfl⟩
  · rw [getLsbD_reqWord]
    simp
  · rw [getLsbD_reqWord]
    simp
  · rw [reqWord_address, BitVec.extractLsb'_toNat, Nat.shiftRight_zero, Nat.mod_eq_of_lt ha]

end Sys2Proof.Machine

/-! SUPPORT. Commands in CLOSED complete in one step with no primitive (O57). -/

namespace Sys2Proof.Machine

/-! ## The scaling commands, in every handle state -/

/-- What a scaling command may write: RESULT, the scale file, and the completion. -/
def State.completeDatapath (r : F64) (f : ScaleFile) (st : Status) (c : Cause) (s : State) : State :=
  { s with result := r, scale := f }.complete st c 0

/-- SCALE's completion writes RESULT and STATUS; neither depends on HSTATE. -/
theorem State.completeScale_withHState (ans : ScaleAnswer) (s : State) :
    ∃ r st, ∀ h, (s.withHState h).completeScale ans =
      (s.withHState h).completeDatapath r s.scale st .none := by
  cases ans with
  | value v => exact ⟨v, .ok, fun _ => rfl⟩
  | fail st => exact ⟨0, st, fun _ => rfl⟩

section
variable (s : State) {cat : BitVec 3}

/-- SCALE.RD of a code without a category (R176). -/
theorem exec_scaleRd_of_no_category (h : categoryOf cat = none) :
    exec (.scaleRd cat) s = .next (s.completeDatapath 0 s.scale .invalidCategory .none) :=
  congrArg Host.Outcome.next (if_pos h)

/-- SCALE.RD of a category while RDATA holds no read (R176). -/
theorem exec_scaleRd_of_no_rdata (h : categoryOf cat ≠ none) (hr : s.rdataValid = false) :
    exec (.scaleRd cat) s = .next (s.completeDatapath 0 s.scale .precondition .noRdata) :=
  congrArg Host.Outcome.next ((if_neg h).trans (if_pos hr))

/-- SCALE.RD that passes its two checks converts RDATA (R176). -/
theorem exec_scaleRd_of_rdata (h : categoryOf cat ≠ none) (hr : s.rdataValid = true) :
    exec (.scaleRd cat) s = .next (s.completeScale (scaleValue s.scale s.rdata cat)) :=
  congrArg Host.Outcome.next ((if_neg h).trans (if_neg (by simp [hr])))

/-- SET_LSB of a code without a category stores nothing (R180). -/
theorem exec_setLsb_of_no_category (v : F64) (h : categoryOf cat = none) :
    exec (.setLsb cat v) s = .next (s.completeDatapath s.result s.scale .invalidCategory .none) := by
  simp only [exec, execSetLsb, h]
  rfl

/-- SET_LSB of a category stores the value (R180). -/
theorem exec_setLsb_of_category (v : F64) {c : Category} (h : categoryOf cat = some c) :
    exec (.setLsb cat v) s = .next (s.completeDatapath s.result (s.scale.setLsb c v) .ok .none) := by
  simp only [exec, execSetLsb, h]
  rfl

/-- SET_TEMP_OFFSET stores the offset (R181). -/
theorem exec_setTempOffset (v : F64) :
    exec (.setTempOffset v) s = .next (s.completeDatapath s.result
      { s.scale with tempOffset := v, ofsValid := true } .ok .none) := rfl

end

/-- A scaling command completes in one step, with the same values whatever HSTATE is (R175, R176, R180,
R181). -/
theorem exec_scaling_withHState {i : Instr} (hi : IsScaling i) (s : State) :
    ∃ r f st c, ∀ h, exec i (s.withHState h) =
      .next ((s.withHState h).completeDatapath r f st c) := by
  cases i with
  | scale cat raw =>
    obtain ⟨r, st, e⟩ := s.completeScale_withHState (scaleValue s.scale raw cat)
    exact ⟨r, _, st, _, fun h => (exec_scale cat raw _).trans (congrArg _ (e h))⟩
  | scaleRd cat =>
    by_cases hcat : categoryOf cat = none
    · exact ⟨_, _, _, _, fun h => exec_scaleRd_of_no_category (s.withHState h) hcat⟩
    · cases hrd : s.rdataValid with
      | false => exact ⟨_, _, _, _, fun h => exec_scaleRd_of_no_rdata (s.withHState h) hcat hrd⟩
      | true =>
        obtain ⟨r, st, e⟩ := s.completeScale_withHState (scaleValue s.scale s.rdata cat)
        exact ⟨r, _, st, _, fun h =>
          (exec_scaleRd_of_rdata (s.withHState h) hcat hrd).trans (congrArg _ (e h))⟩
  | setLsb cat v =>
    cases hcat : categoryOf cat with
    | none =>
      exact ⟨s.result, s.scale, _, _, fun h =>
        exec_setLsb_of_no_category (s.withHState h) v hcat⟩
    | some c =>
      exact ⟨s.result, s.scale.setLsb c v, _, _, fun h =>
        exec_setLsb_of_category (s.withHState h) v hcat⟩
  | setTempOffset v =>
    exact ⟨s.result, { s.scale with tempOffset := v, ofsValid := true }, _, _, fun h =>
      exec_setTempOffset (s.withHState h) v⟩
  | _ => exact hi.elim

/-! ## The bus and life-cycle commands in CLOSED -/

section
variable {s : State} (hc : s.hstate = .closed) (hp : s.sq.primPending = false)
include hc hp

/-- DEASSERT_CS in CLOSED completes OK at once (R135). -/
theorem exec_deassertCs_of_closed : exec .deassertCs s = .next (s.complete .ok .none 0) := by
  simp [exec_deassertCs, deassertCsBegin, hc, hp]

/-- The other five complete with CLOSED_HANDLE at once, READ_REG after clearing RDATA: each checks
CLOSED first (R130, R140, R150, R200, R205). -/
theorem exec_closedHandle_of_closed {i : Instr} (hd : i ≠ .deassertCs) (hi : ¬ IsScaling i) :
    exec i s = .next (s.complete .closedHandle .none 0) ∨
      exec i s = .next (s.clearRead.complete .closedHandle .none 0) := by
  cases i with
  | init => exact .inl (by simp [exec_init, initBegin, hc, hp])
  | teardown => exact .inl (by simp [exec_teardown, teardownBegin, hc, hp])
  | assertCs => exact .inl (by simp [exec_assertCs, assertCsBegin, hc, hp])
  | deassertCs => exact absurd rfl hd
  | readReg => exact .inr (by simp [exec_readReg, readRegBegin, hc, hp])
  | writeReg => exact .inl (by simp [exec_writeReg, writeRegBegin, hc, hp])
  | _ => exact absurd trivial hi

end

/-- Settles O57: the scaling commands do not read HSTATE, DEASSERT_CS completes OK, and the other five
fail their first check. -/
theorem closedHandleTouchesNoPin : Obligations.ClosedHandleTouchesNoPin := by
  intro i s hc hp
  by_cases hi : IsScaling i
  · obtain ⟨r, f, st, c, e⟩ := exec_scaling_withHState hi s
    refine ⟨s.completeDatapath r f st c, e s.hstate, rfl, rfl, rfl, hc, ?_,
      fun _ h => absurd hi h, fun _ h => e h⟩
    rintro rfl
    exact hi.elim
  · by_cases hd : i = .deassertCs
    · subst hd
      exact ⟨_, exec_deassertCs_of_closed hc hp, rfl, rfl, rfl, hc, fun _ => rfl,
        fun h => absurd rfl h, fun h => absurd h hi⟩
    · obtain e | e := exec_closedHandle_of_closed hc hp hd hi <;>
        exact ⟨_, e, rfl, rfl, rfl, hc, fun h => absurd h hd, fun _ _ => ⟨rfl, rfl⟩,
          fun h => absurd h hi⟩

end Sys2Proof.Machine

/-! SUPPORT. SET_LSB and SET_TEMP_OFFSET: their words and what they store (O43, O44). -/

namespace Sys2Proof.Machine

/-! ## Their words -/

/-- A word decodes to a SET_LSB exactly when it matches the row, its operands read from CAT and OPND
(R102, R105). -/
theorem decode_eq_setLsb_iff (cmd : CmdWord) (opnd : OpndWord) (cat : BitVec 3) (v : F64) :
    decode cmd opnd = .command (.setLsb cat v) ↔
      cmd &&& 0xFFFFFF8F = 0x00000008 ∧ fieldCat cmd = cat ∧ opnd = v := by
  have row : cmd &&& 0xFFFFFF8F = 0x00000008 ↔ RowFields cmd (.setLsb cat v) :=
    and_mask_eq_match_iff cmd (.setLsb cat v)
  have decoded (h : RowFields cmd (.setLsb cat v)) :
      decode cmd opnd = .command (.setLsb (fieldCat cmd) opnd) := by
    obtain ⟨reserved, op⟩ := h
    simp [decode, op, reserved]
  rw [row]
  refine ⟨fun h => ?_, fun ⟨fields, hcat, hv⟩ => by rw [decoded fields, hcat, hv]⟩
  have fields := rowFields_of_decode h
  rw [decoded fields] at h
  cases h
  exact ⟨fields, rfl, rfl⟩

/-- One word is SET_TEMP_OFFSET, its operand OPND (R102, R105). -/
theorem decode_eq_setTempOffset_iff (cmd : CmdWord) (opnd : OpndWord) (v : F64) :
    decode cmd opnd = .command (.setTempOffset v) ↔ cmd = 0x00000009 ∧ opnd = v := by
  refine ⟨fun h => ?_, fun ⟨hcmd, hv⟩ => by rw [hcmd, hv]; rfl⟩
  have row := (and_mask_eq_match_iff cmd (.setTempOffset v)).mpr (rowFields_of_decode h)
  have hcmd : cmd = 0x00000009 := BitVec.and_allOnes.symm.trans row
  subst hcmd
  cases h
  exact ⟨rfl, rfl⟩

/-! ## The scale file -/

section
variable (f : ScaleFile) (c : Category) (v : F64)

theorem ScaleFile.lsb_setLsb (d : Category) :
    (f.setLsb c v).lsb d = if d = c then v else f.lsb d := by
  cases c <;> cases d <;> rfl

@[simp] theorem ScaleFile.setLsb_tempOffset : (f.setLsb c v).tempOffset = f.tempOffset := by
  cases c <;> rfl

@[simp] theorem ScaleFile.setLsb_ofsValid : (f.setLsb c v).ofsValid = f.ofsValid := by
  cases c <;> rfl

theorem ScaleFile.setLsb_lsbValid :
    (f.setLsb c v).lsbValid = f.lsbValid ||| (1 : BitVec 5) <<< c.code.toNat := by
  cases c <;> rfl

theorem ScaleFile.getLsbD_setLsb_lsbValid {n : Nat} (hn : n < 5) :
    (f.setLsb c v).lsbValid.getLsbD n =
      (f.lsbValid.getLsbD n || decide (n = c.code.toNat)) := by
  have one_bit : ((1 : BitVec 5) <<< c.code.toNat).getLsbD n = decide (n = c.code.toNat) := by
    simp only [BitVec.ofNat_eq_ofNat, BitVec.getLsbD_shiftLeft, BitVec.getLsbD_one]
    grind
  rw [ScaleFile.setLsb_lsbValid, BitVec.getLsbD_or, one_bit]

end

/-- Settles O43: a code from 5 up has no category and stores nothing; a category's code stores in its
constant and its valid bit. -/
theorem setLsbRule : Obligations.SetLsbRule := by
  refine ⟨decode_eq_setLsb_iff, fun s cat v hcat => ?_, fun s c v => ⟨s.scale.setLsb c v, ?_⟩⟩
  · exact exec_setLsb_of_no_category s v ((categoryOf_eq_none_iff cat).mpr hcat)
  · exact ⟨exec_setLsb_of_category s v (categoryOf_code c), (ScaleFile.lsb_setLsb ..).trans (if_pos rfl),
      fun _ hd => (ScaleFile.lsb_setLsb ..).trans (if_neg hd),
      fun _ hn => ScaleFile.getLsbD_setLsb_lsbValid _ _ _ hn,
      ScaleFile.setLsb_tempOffset .., ScaleFile.setLsb_ofsValid ..⟩

/-- Settles O44: one word, and exec completes OK with the offset stored. -/
theorem setTempOffsetRule : Obligations.SetTempOffsetRule :=
  ⟨decode_eq_setTempOffset_iff, fun s v => exec_setTempOffset s v⟩

end Sys2Proof.Machine

/-! SUPPORT. Binary64 patterns by sign and magnitude bits, and rounding of what needs none (R171). -/

namespace Sys2Proof.Machine

/-! ## The fields of a pattern -/

/-- The exponent and the fraction field as one number: what `roundMag` answers. -/
def magBits (b : F64) : Nat := b.toNat % 2 ^ 63

theorem fExp_toNat (b : F64) : (fExp b).toNat = magBits b / 2 ^ 52 := by
  rw [fExp, BitVec.extractLsb'_toNat, Nat.shiftRight_eq_div_pow, magBits]
  omega

theorem fFrac_toNat (b : F64) : (fFrac b).toNat = magBits b % 2 ^ 52 := by
  rw [fFrac, BitVec.extractLsb'_toNat, Nat.shiftRight_zero, magBits]
  omega

theorem fSign_eq_decide (b : F64) : fSign b = decide (2 ^ 63 ≤ b.toNat) :=
  BitVec.msb_eq_decide b

/-- A pattern is its sign and its magnitude bits. -/
theorem toNat_eq_sign_add_magBits (b : F64) :
    b.toNat = (if fSign b then 2 ^ 63 else 0) + magBits b := by
  have hb := b.isLt
  simp only [fSign_eq_decide, decide_eq_true_eq, magBits]
  split <;> omega

theorem eq_of_sign_of_magBits {a b : F64} (hs : fSign a = fSign b) (hm : magBits a = magBits b) :
    a = b :=
  BitVec.eq_of_toNat_eq <| by
    rw [toNat_eq_sign_add_magBits, hs, hm, ← toNat_eq_sign_add_magBits]

theorem isFinite_iff (b : F64) : isFinite b = true ↔ magBits b < 2047 * 2 ^ 52 := by
  have hb : magBits b < 2 ^ 63 := Nat.mod_lt _ (by decide)
  rw [isFinite, bne_iff_ne, ne_eq, ← BitVec.toNat_inj, fExp_toNat]
  change ¬ _ = 2047 ↔ _
  omega

theorem isNaN_of_isFinite {b : F64} (h : isFinite b = true) : isNaN b = false := by
  simp_all [isFinite, isNaN]

theorem isInf_of_isFinite {b : F64} (h : isFinite b = true) : isInf b = false := by
  simp_all [isFinite, isInf]

/-- What is neither a NaN nor an infinity is finite. -/
theorem isFinite_of_not_isNaN {b : F64} (hn : isNaN b = false) (hi : isInf b = false) :
    isFinite b = true := by
  simp_all [isFinite, isNaN, isInf]

/-! ## Magnitudes -/

/-- `q` times `2 ^ d` as binary64 holds it: at most 53 bits, all 53 of them used above the subnormal
range. -/
structure IsSignificand (q d : Nat) : Prop where
  lt : q < 2 ^ 53
  full : d = 0 ∨ 2 ^ 52 ≤ q

/-- The magnitude bits of `q` times `2 ^ d` are `d * 2 ^ 52 + q`: the leading bit of a full `q` carries
into the exponent field. -/
theorem fMag_of_magBits {q d : Nat} {b : F64} (h : IsSignificand q d)
    (hb : magBits b = d * 2 ^ 52 + q) : fMag b = q * 2 ^ d := by
  have hlt := h.lt
  have subnormal : fExp b = 0 ↔ magBits b < 2 ^ 52 := by
    rw [← BitVec.toNat_inj, fExp_toNat]
    change _ = 0 ↔ _
    omega
  rw [fMag, fExp_toNat, fFrac_toNat]
  split
  · next he =>
    have small := subnormal.mp he
    have hd : d = 0 := by omega
    rw [hd, Nat.pow_zero]
    omega
  · next he =>
    have hq : 2 ^ 52 ≤ q := by
      have := mt subnormal.mpr he
      have := h.full
      omega
    have frac : 2 ^ 52 + magBits b % 2 ^ 52 = q := by omega
    have exp : magBits b / 2 ^ 52 - 1 = d := by omega
    rw [frac, exp]

theorem exists_isSignificand (b : F64) :
    ∃ q d, IsSignificand q d ∧ magBits b = d * 2 ^ 52 + q := by
  by_cases h : magBits b < 2 ^ 52
  · exact ⟨magBits b, 0, ⟨by omega, .inl rfl⟩, by omega⟩
  · exact ⟨2 ^ 52 + magBits b % 2 ^ 52, magBits b / 2 ^ 52 - 1, ⟨by omega, .inr (by omega)⟩, by omega⟩

/-- Magnitude 0 has no bit set. -/
theorem magBits_eq_zero {b : F64} (h : fMag b = 0) : magBits b = 0 := by
  obtain ⟨q, d, hs, hb⟩ := exists_isSignificand b
  have hq : q = 0 := by
    rw [fMag_of_magBits hs hb] at h
    exact (Nat.mul_eq_zero.mp h).resolve_right (by positivity)
  have := hs.full
  omega

/-- The magnitude reads the magnitude bits only. -/
theorem fMag_congr {a b : F64} (h : magBits a = magBits b) : fMag a = fMag b := by
  obtain ⟨q, d, hs, hb⟩ := exists_isSignificand b
  rw [fMag_of_magBits hs hb, fMag_of_magBits hs (h.trans hb)]

theorem natAbs_fVal (b : F64) : (fVal b).natAbs = fMag b := by
  rw [fVal]
  split <;> simp

/-- The sign bit of what is not a zero is the sign of its value. -/
theorem decide_fVal_neg {b : F64} (h : fVal b ≠ 0) : decide (fVal b < 0) = fSign b := by
  have hm : fMag b ≠ 0 := by rwa [← natAbs_fVal, Int.natAbs_ne_zero]
  rw [fVal]
  cases fSign b with
  | false => exact decide_eq_false (by rw [if_neg Bool.false_ne_true]; omega)
  | true => exact decide_eq_true (by rw [if_pos rfl]; omega)

/-- A zero is +0.0 or -0.0. -/
theorem eq_fZero_of_fVal {b : F64} (h : fVal b = 0) : b = fZero (fSign b) := by
  have hm : magBits b = 0 := magBits_eq_zero (by rw [← natAbs_fVal, h, Int.natAbs_zero])
  cases hs : fSign b with
  | false => exact eq_of_sign_of_magBits hs hm
  | true => exact eq_of_sign_of_magBits hs hm

/-! ## Rounding -/

/-- Rounding goes no further than infinity. -/
theorem roundMag_le (num den : Nat) : roundMag num den ≤ 2047 * 2 ^ 52 := Nat.min_le_right _ _

theorem toNat_roundF64 (neg : Bool) (num den : Nat) :
    (roundF64 neg num den).toNat = (if neg then 2 ^ 63 else 0) + roundMag num den := by
  have hr := roundMag_le num den
  rw [roundF64, BitVec.toNat_ofNat, Nat.mod_eq_of_lt]
  split <;> omega

@[simp] theorem magBits_roundF64 (neg : Bool) (num den : Nat) :
    magBits (roundF64 neg num den) = roundMag num den := by
  have hr := roundMag_le num den
  rw [magBits, toNat_roundF64]
  split <;> omega

@[simp] theorem fSign_roundF64 (neg : Bool) (num den : Nat) :
    fSign (roundF64 neg num den) = neg := by
  have hr := roundMag_le num den
  rw [fSign_eq_decide, toNat_roundF64]
  cases neg
  · exact decide_eq_false (by rw [if_neg Bool.false_ne_true]; omega)
  · exact decide_eq_true (by rw [if_pos rfl]; omega)

/-- A multiple of the unit needs no rounding. -/
theorem roundHalfEven_mul (q : Nat) {unit : Nat} (h : 0 < unit) :
    roundHalfEven (q * unit) unit = q := by
  rw [roundHalfEven, Nat.mul_mod_left, Nat.mul_div_cancel _ h]
  exact if_neg (by omega)

/-- The bits below the significand of `q` times `2 ^ d` are `d`. -/
theorem droppedBits_mul {q d den : Nat} (h : IsSignificand q d) (hden : 0 < den) :
    droppedBits (q * 2 ^ d * den) den = d := by
  have hlt := h.lt
  rw [droppedBits, Nat.mul_div_cancel _ hden]
  obtain rfl | hq := h.full
  · have : q.log2 < 53 := by
      obtain rfl | hq := Nat.eq_zero_or_pos q
      · decide
      · exact (Nat.log2_lt hq.ne').mpr hlt
    rw [Nat.pow_zero, Nat.mul_one]
    omega
  · have hne : q ≠ 0 := by omega
    have : (q * 2 ^ d).log2 = 52 + d := by
      rw [Nat.log2_eq_iff (by positivity)]
      constructor
      · rw [Nat.pow_add]; exact Nat.mul_le_mul_right _ hq
      · rw [show 52 + d + 1 = 53 + d by omega, Nat.pow_add]
        exact Nat.mul_lt_mul_of_pos_right hlt (by positivity)
    omega

/-- What binary64 holds is rounded to its own magnitude bits, or to infinity past the exponents' range. -/
theorem roundMag_mul {q d den : Nat} (h : IsSignificand q d) (hden : 0 < den) :
    roundMag (q * 2 ^ d * den) den = min (d * 2 ^ 52 + q) (2047 * 2 ^ 52) := by
  rw [roundMag, droppedBits_mul h hden, Nat.mul_assoc, Nat.mul_comm (2 ^ d),
    roundHalfEven_mul q (by positivity)]

/-- Rounding the magnitude of a finite pattern gives the pattern back. -/
theorem roundF64_fMag {b : F64} (h : isFinite b = true) {den : Nat} (hden : 0 < den) :
    roundF64 (fSign b) (fMag b * den) den = b := by
  obtain ⟨q, d, hs, hb⟩ := exists_isSignificand b
  have bound := (isFinite_iff b).mp h
  refine eq_of_sign_of_magBits (fSign_roundF64 ..) ?_
  rw [magBits_roundF64, fMag_of_magBits hs hb, roundMag_mul hs hden, hb]
  omega

/-- Rounding what binary64 holds is exact. -/
theorem roundF64_exact {q d den : Nat} (neg : Bool) (h : IsSignificand q d)
    (bound : d * 2 ^ 52 + q < 2047 * 2 ^ 52) (hden : 0 < den) :
    isFinite (roundF64 neg (q * 2 ^ d * den) den) = true ∧
      fMag (roundF64 neg (q * 2 ^ d * den) den) = q * 2 ^ d := by
  have hb : magBits (roundF64 neg (q * 2 ^ d * den) den) = d * 2 ^ 52 + q := by
    rw [magBits_roundF64, roundMag_mul h hden]
    omega
  exact ⟨(isFinite_iff _).mpr (by omega), fMag_of_magBits h hb⟩

/-! ## Integers -/

/-- The significand of a positive integer of at most 53 bits, shifted up to the full 53. -/
theorem isSignificand_of_nat {n : Nat} (h0 : n ≠ 0) (h : n.log2 ≤ 52) :
    IsSignificand (n * 2 ^ (52 - n.log2)) (1022 + n.log2) := by
  constructor
  · calc n * 2 ^ (52 - n.log2) < 2 ^ (n.log2 + 1) * 2 ^ (52 - n.log2) :=
          Nat.mul_lt_mul_of_pos_right Nat.lt_log2_self (by positivity)
      _ = 2 ^ 53 := by rw [← Nat.pow_add]; congr 1; omega
  · refine .inr ?_
    calc 2 ^ 52 = 2 ^ n.log2 * 2 ^ (52 - n.log2) := by rw [← Nat.pow_add]; congr 1; omega
      _ ≤ n * 2 ^ (52 - n.log2) := Nat.mul_le_mul_right _ (Nat.log2_self_le h0)

/-- An integer of at most 53 bits is one binary64 holds. -/
theorem exists_isSignificand_of_nat {n : Nat} (h : n < 2 ^ 53) :
    ∃ q d, IsSignificand q d ∧ d ≤ 1074 ∧ n * 2 ^ 1074 = q * 2 ^ d := by
  obtain rfl | h0 := eq_or_ne n 0
  · exact ⟨0, 0, ⟨by decide, .inl rfl⟩, by decide, by rw [Nat.zero_mul, Nat.zero_mul]⟩
  · have hlog : n.log2 ≤ 52 := Nat.le_of_lt_succ ((Nat.log2_lt h0).mpr h)
    refine ⟨_, _, isSignificand_of_nat h0 hlog, by omega, ?_⟩
    rw [Nat.mul_assoc, ← Nat.pow_add]
    congr 2
    omega

/-- An integer of at most 53 bits is converted exactly (R171, R172). -/
theorem i16ToF64_exact {n : Int} (h : n.natAbs < 2 ^ 53) :
    isFinite (i16ToF64 n) = true ∧ fVal (i16ToF64 n) = n * 2 ^ 1074 := by
  obtain ⟨q, d, hs, hd, value⟩ := exists_isSignificand_of_nat h
  have hlt := hs.lt
  obtain ⟨finite, mag⟩ := roundF64_exact (decide (n < 0)) hs (by omega) one_pos
  rw [Nat.mul_one, ← value] at finite mag
  have cast : ((n.natAbs * 2 ^ 1074 : Nat) : Int) = |n| * 2 ^ 1074 := by
    rw [Nat.cast_mul, Nat.cast_pow, Int.natCast_natAbs, Nat.cast_ofNat]
  refine ⟨finite, ?_⟩
  rw [fVal, i16ToF64, fSign_roundF64, mag, cast]
  obtain hn | hn := lt_or_ge n 0
  · rw [if_pos (decide_eq_true hn), abs_of_neg hn, neg_mul, neg_neg]
  · rw [if_neg (by simpa using hn), abs_of_nonneg hn]

/-- Settles O45: 16 bits fit in a significand. -/
theorem rawSampleIsExact : Obligations.RawSampleIsExact := by
  refine ⟨fun r => i16ToF64_exact ?_, ?_, ?_, ?_, ?_⟩
  · have := r.toInt_lt
    have := r.le_toInt
    rw [sint16]
    omega
  all_goals decide +kernel

end Sys2Proof.Machine

/-! SUPPORT. The four properties of the scaling commands (O49). -/

namespace Sys2Proof.Machine

/-! ## Determinism -/

/-- SCALE.RD with RDATA valid is SCALE of RDATA: both check the category first (R175, R176). -/
theorem exec_scaleRd_eq_exec_scale {s : State} (cat : BitVec 3) (hr : s.rdataValid = true) :
    exec (.scaleRd cat) s = exec (.scale cat s.rdata) s := by
  rw [exec_scale]
  by_cases hcat : categoryOf cat = none
  · rw [exec_scaleRd_of_no_category s hcat, scaleValue, hcat]
    rfl
  · exact exec_scaleRd_of_rdata s hcat hr

/-- What SCALE leaves in RESULT and STATUS depends on the scale file alone (R185 (a)). -/
theorem exec_scale_deterministic {s s' t t' : State} {cat : BitVec 3} {r : Word16}
    (hf : s.scale = s'.scale) (h : exec (.scale cat r) s = .next t)
    (h' : exec (.scale cat r) s' = .next t') : t.result = t'.result ∧ t.status = t'.status := by
  rw [exec_scale] at h h'
  rw [← hf] at h'
  cases h
  cases h'
  cases scaleValue s.scale r cat <;> exact ⟨rfl, rfl⟩

/-! ## Products with -1.0 and +0.0 -/

/-- A product of finite patterns is the exact product, rounded once (R171). -/
theorem fmul64_of_isFinite {a b : F64} (ha : isFinite a = true) (hb : isFinite b = true) :
    fmul64 a b = roundF64 (fSign a ^^ fSign b) (fMag a * fMag b) (2 ^ 1074) := by
  rw [fmul64, isNaN_of_isFinite ha, isNaN_of_isFinite hb, isInf_of_isFinite ha,
    isInf_of_isFinite hb, Bool.or_self, if_neg Bool.false_ne_true, if_neg Bool.false_ne_true]

@[simp] theorem fSign_or_signBit (b : F64) : fSign (b ||| 0x8000000000000000) = true := by
  simp [fSign]

@[simp] theorem magBits_or_signBit (b : F64) :
    magBits (b ||| 0x8000000000000000) = magBits b := by
  rw [magBits, BitVec.toNat_or, Nat.or_mod_two_pow]
  exact Nat.or_zero _

/-- -1.0 times a positive finite pattern sets the sign bit and nothing else. -/
theorem fmul64_minusOne {b : F64} (hb : isFinite b = true) (hs : fSign b = false) :
    fmul64 0xBFF0000000000000 b = b ||| 0x8000000000000000 := by
  have negative : fSign 0xBFF0000000000000 = true := by decide
  have one : fMag 0xBFF0000000000000 = 2 ^ 1074 := by decide +kernel
  have negated : isFinite (b ||| 0x8000000000000000) = true := by
    rw [isFinite_iff, magBits_or_signBit]
    exact (isFinite_iff b).mp hb
  calc fmul64 0xBFF0000000000000 b
      = roundF64 true (fMag b * 2 ^ 1074) (2 ^ 1074) := by
        rw [fmul64_of_isFinite (by decide) hb, negative, hs, one, Nat.mul_comm, Bool.xor_false]
    _ = b ||| 0x8000000000000000 := by
        rw [← fMag_congr (magBits_or_signBit b), ← fSign_or_signBit b]
        exact roundF64_fMag negated (by positivity)

/-- +0.0 times a finite pattern with sign bit 0 is +0.0. -/
theorem fmul64_plusZero {b : F64} (hb : isFinite b = true) (hs : fSign b = false) :
    fmul64 0 b = 0 := by
  have zero : fMag 0 = 0 := by decide
  have rounded : roundF64 (fSign 0) (fMag 0 * 2 ^ 1074) (2 ^ 1074) = 0 :=
    roundF64_fMag (by decide) (by positivity)
  rw [zero, Nat.zero_mul] at rounded
  rw [fmul64_of_isFinite (by decide) hb, hs, zero, Nat.zero_mul, Bool.xor_false, rounded]

/-! ## Sums with +0.0 -/

/-- A sum of finite patterns is the exact sum, rounded once; a zero sum has its own sign rule (R171). -/
theorem fadd64_of_isFinite {a b : F64} (ha : isFinite a = true) (hb : isFinite b = true) :
    fadd64 a b = if fVal a + fVal b = 0 then fZero (fSign a && fSign b)
      else roundF64 (decide (fVal a + fVal b < 0)) (fVal a + fVal b).natAbs 1 := by
  rw [fadd64, isNaN_of_isFinite ha, isNaN_of_isFinite hb, isInf_of_isFinite ha,
    isInf_of_isFinite hb, Bool.or_self, if_neg Bool.false_ne_true, if_neg Bool.false_ne_true,
    if_neg Bool.false_ne_true]

/-- An infinity absorbs a finite operand (R171). -/
theorem fadd64_of_isInf {a b : F64} (ha : isFinite a = true) (hb : isInf b = true)
    (hn : isNaN b = false) : fadd64 a b = b := by
  rw [fadd64, isNaN_of_isFinite ha, isInf_of_isFinite ha, hn, hb, Bool.or_self,
    if_neg Bool.false_ne_true, if_neg Bool.false_ne_true, if_pos rfl]

theorem fadd64_of_isNaN (a : F64) {b : F64} (hb : isNaN b = true) : fadd64 a b = canonicalNaN := by
  rw [fadd64, hb, Bool.or_true, if_pos rfl]

/-- +0.0 plus anything but a NaN and -0.0 is the other operand, bit for bit. -/
theorem fadd64_plusZero {b : F64} (hn : isNaN b = false) (hb : b ≠ 0x8000000000000000) :
    fadd64 0 b = b := by
  cases hi : isInf b with
  | true => exact fadd64_of_isInf (by decide) hi hn
  | false =>
    have finite := isFinite_of_not_isNaN hn hi
    have zero : fVal 0 = 0 := by decide
    rw [fadd64_of_isFinite (by decide) finite, zero, Int.zero_add]
    split
    · next hv =>
      have zeroes := eq_fZero_of_fVal hv
      cases hs : fSign b with
      | false => rw [zeroes, hs]; rfl
      | true => exact absurd (zeroes.trans (by rw [hs]; rfl)) hb
    · next hv =>
      rw [decide_fVal_neg hv, natAbs_fVal, ← Nat.mul_one (fMag b)]
      exact roundF64_fMag finite one_pos

/-! ## The conversion, by category -/

theorem scaleValue_code (f : ScaleFile) (r : Word16) {c : Category} (hc : c ≠ .temperature)
    (hv : f.isValid c = true) :
    scaleValue f r c.code = .value (fmul64 (i16ToF64 (sint16 r)) (f.lsb c)) := by
  rw [scaleValue, categoryOf_code]
  cases c <;> simp_all

theorem scaleValue_temperature (f : ScaleFile) (r : Word16) (hv : f.isValid .temperature = true)
    (ho : f.ofsValid = true) :
    scaleValue f r 2 =
      .value (fadd64 (fmul64 (i16ToF64 (sint16 r)) (f.lsb .temperature)) f.tempOffset) := by
  change (if _ then _ else _) = _
  rw [hv, ho]
  rfl

/-- Settles O49: SCALE and SCALE.RD are one function of the pattern and the scale file; 0xFFFF is -1.0
and 0x0000 is +0.0, whose products and sums are exact; and a completion keeps the environment. -/
theorem scaleProperties : Obligations.ScaleProperties := by
  obtain ⟨-, zero, minusOne, -, -⟩ := rawSampleIsExact
  refine ⟨fun s s' t t' cat r => exec_scale_deterministic, fun s s' t t' cat hf hd hr hr' h h' => ?_,
    fun s s' t t' cat r hf hd hr' h h' => ?_, fun f hv hfin hs _ => ?_,
    fun f c hc hv hfin hs => ?_, fun f hv ho hfin hs hz hn => ?_, fun f hv ho hn => ?_,
    fun i s t hi h => ?_⟩
  · rw [exec_scaleRd_eq_exec_scale cat hr] at h
    rw [exec_scaleRd_eq_exec_scale cat hr', ← hd] at h'
    exact exec_scale_deterministic hf h h'
  · rw [exec_scaleRd_eq_exec_scale cat hr', hd] at h'
    exact exec_scale_deterministic hf h h'
  · refine (scaleValue_code f 0xFFFF (c := .gyroscope) (by decide) hv).trans ?_
    rw [minusOne]
    exact congrArg _ (fmul64_minusOne hfin hs)
  · rw [scaleValue_code f _ hc hv, zero, fmul64_plusZero hfin hs]
  · rw [scaleValue_temperature f _ hv ho, zero]
    refine congrArg _ ?_
    exact (congrArg (fadd64 · f.tempOffset) (fmul64_plusZero hfin hs)).trans (fadd64_plusZero hn hz)
  · rw [scaleValue_temperature f _ hv ho, fadd64_of_isNaN _ hn]
    rfl
  · obtain ⟨r, f, st, c, completes⟩ := exec_scaling_withHState hi s
    cases h.symm.trans (completes s.hstate)
    rfl

end Sys2Proof.Machine

/-! SUPPORT. A word that decodes to no command completes in the step that accepts it (O10). -/

namespace Sys2Proof.Machine

/-- The step that accepts an offered word that decodes to no command is its completion at the accepted
state. -/
theorem step_accept_illegal {s : State} {c : IllegalCause} {cmd : CmdWord} {opnd : OpndWord}
    {rest : List (CmdWord × OpndWord)} (hq : s.env.inputs = []) (hr : s.env.rstN = true)
    (hb : s.busy = false) (hp : s.env.cmdQueue = (cmd, opnd) :: rest)
    (hd : decode cmd opnd = .illegal c) :
    step s = .next ((s.accept cmd opnd rest).completeIllegal c) := by
  have hs : s.takeInput = s := State.takeInput_of_quiet s hq
  unfold step stepBlock runLatched
  rw [hs, hr, hb, hp]
  simp only [State.accept_sq_cmdL, State.accept_sq_opndL, hd]
  rfl

/-- Settles O10: the word is accepted and completed in one step, and each cause has its ERR_INFO. -/
theorem illegalCommandCompletes : Obligations.IllegalCommandCompletes := by
  refine ⟨rfl, fun s cmd opnd rest c hq hr hb hp hd => ?_⟩
  rw [step_accept_illegal hq hr hb hp hd]
  cases c with
  | reservedOpcode => rfl
  | nonzeroReservedField => rfl

end Sys2Proof.Machine

/-! SUPPORT. Decoding what the encoder packs, and the words no row matches (O1, O3, O4). -/

namespace Sys2Proof

/-! ## INIT's operand word -/

section
variable (cs dr rst dout din sclk : PinId) (clksel : BitVec 4)

/-- The fields of INIT's packed operand word (R103). -/
theorem extractLsb'_packPins :
    (packPins cs dr rst dout din sclk clksel).extractLsb' 0 8 = cs ∧
    (packPins cs dr rst dout din sclk clksel).extractLsb' 8 8 = dr ∧
    (packPins cs dr rst dout din sclk clksel).extractLsb' 16 8 = rst ∧
    (packPins cs dr rst dout din sclk clksel).extractLsb' 24 8 = dout ∧
    (packPins cs dr rst dout din sclk clksel).extractLsb' 32 8 = din ∧
    (packPins cs dr rst dout din sclk clksel).extractLsb' 40 8 = sclk ∧
    (packPins cs dr rst dout din sclk clksel).extractLsb' 48 4 = clksel ∧
    (packPins cs dr rst dout din sclk clksel).extractLsb' 52 12 = 0 := by
  refine ⟨?_, ?_, ?_, ?_, ?_, ?_, ?_, ?_⟩ <;>
    refine BitVec.eq_of_getLsbD_eq fun j hj => ?_ <;>
    rw [BitVec.getLsbD_extractLsb', getLsbD_packPins] <;>
    grind

end

/-- Settles O1: the decoder's fields of the packed words are the operands packed, and every field a
command does not use is packed as 0. -/
theorem decodeEncodeRoundTrip : Obligations.DecodeEncodeRoundTrip := by
  intro i
  cases i with
  | init budget cs dr rst dout din sclk clksel =>
    obtain ⟨hcs, hdr, hrst, hdout, hdin, hsclk, hclk, hzero⟩ :=
      extractLsb'_packPins cs dr rst dout din sclk clksel
    simp [encode, decode, hcs, hdr, hrst, hdout, hdin, hsclk, hclk, hzero]
  | _ => simp [encode, decode]

/-! ## Illegal words -/

/-- The opcodes no row has (R107). -/
theorem decode_eq_reservedOpcode_iff (cmd : CmdWord) (opnd : OpndWord) :
    decode cmd opnd = .illegal .reservedOpcode ↔
      (fieldOp cmd).toNat = 0 ∨ 10 ≤ (fieldOp cmd).toNat := by
  have nine (op : BitVec 4) : (op.toNat = 0 ∨ 10 ≤ op.toNat) ↔
      op ≠ 1 ∧ op ≠ 2 ∧ op ≠ 3 ∧ op ≠ 4 ∧ op ≠ 5 ∧ op ≠ 6 ∧ op ≠ 7 ∧ op ≠ 8 ∧ op ≠ 9 := by
    revert op; decide
  rw [nine]
  fun_cases decode cmd opnd <;> simp_all

/-- INIT's opcode over an OPND with a reserved bit set is illegal (R103, R107). -/
theorem decode_of_reserved_opnd {cmd : CmdWord} {opnd : OpndWord} (hop : fieldOp cmd = 0x1)
    (hz : opnd.extractLsb' 52 12 ≠ 0) : decode cmd opnd = .illegal .nonzeroReservedField := by
  rw [decode, if_pos hop, if_pos (.inr (.inr (.inr hz)))]

/-- Settles O3: a word that matches a row decodes to a command unless INIT's OPND forbids it, and a
word that decodes to a command matches its row. -/
theorem reservedWordsAreIllegal : Obligations.ReservedWordsAreIllegal := by
  intro cmd opnd
  refine ⟨(decode_eq_reservedOpcode_iff cmd opnd).mpr, fun h1 h9 => ⟨fun h => ?_, fun h => ?_⟩⟩
  · by_contra hn
    rw [not_or, not_forall] at hn
    obtain ⟨⟨i, hi⟩, hopnd⟩ := hn
    have fields := (and_mask_eq_match_iff cmd i).mp (not_not.mp hi)
    obtain ⟨j, hj, -⟩ := decode_of_rowFields opnd fields fun hop => by
      by_contra hz
      exact hopnd ⟨congrArg BitVec.toNat hop, hz⟩
    rw [hj] at h
    cases h
  · obtain hrow | ⟨hop, hz⟩ := h
    · match hd : decode cmd opnd with
      | .command i => exact absurd ((and_mask_eq_match_iff cmd i).mpr (rowFields_of_decode hd)) (hrow i)
      | .illegal .reservedOpcode =>
        have := (decode_eq_reservedOpcode_iff cmd opnd).mp hd
        simp only [fieldOp] at this
        omega
      | .illegal .nonzeroReservedField => rfl
    · exact decode_of_reserved_opnd (BitVec.eq_of_toNat_eq hop) hz

/-- Settles O4: the decoder evaluated on the words. -/
theorem wordsDecodeAsTabled : Obligations.WordsDecodeAsTabled := by
  refine ⟨?_, ?_, ?_, ?_, ?_, ?_⟩ <;> decide

end Sys2Proof

/-! SUPPORT. What each command does at its acceptance and when its primitive in flight has its outcome, one
lemma per command: later proofs cite these and unfold no command. -/

namespace Sys2Proof.Machine

/-! ## What a transaction writes at its completion -/

/-- What a transaction command writes at an OK completion: RDATA by READ_REG, nothing by WRITE_REG. -/
def State.commitOf : Instr → State → State
  | .readReg _, s => s.commitRead
  | _, s => s

/-- What a transaction command writes when it fails: RDATA cleared by READ_REG, nothing by WRITE_REG. -/
def State.abortOf : Instr → State → State
  | .readReg _, s => s.clearRead
  | _, s => s

/-- `u` is `s` but for RDATA and RDATA_VALID, which are consistent in `u`, and which only a READ_REG
writes. -/
structure ReadWrites (i : Instr) (s u : State) : Prop where
  frame : ∃ r v, u = { s with rdata := r, rdataValid := v }
  consistent : (s.rdataValid = false → s.rdata = 0) → u.rdataValid = false → u.rdata = 0
  onlyRead : (∀ a, i ≠ .readReg a) → u.rdata = s.rdata ∧ u.rdataValid = s.rdataValid

theorem ReadWrites.refl (i : Instr) (s : State) : ReadWrites i s s :=
  ⟨⟨_, _, rfl⟩, id, fun _ => ⟨rfl, rfl⟩⟩

theorem readWrites_commitOf (i : Instr) (s : State) : ReadWrites i s (s.commitOf i) := by
  cases i with
  | readReg a => exact ⟨⟨_, _, rfl⟩, fun _ h => by simp [State.commitOf] at h, fun h => absurd rfl (h a)⟩
  | _ => exact .refl _ s

theorem readWrites_abortOf (i : Instr) (s : State) : ReadWrites i s (s.abortOf i) := by
  cases i with
  | readReg a => exact ⟨⟨_, _, rfl⟩, fun _ _ => rfl, fun h => absurd rfl (h a)⟩
  | _ => exact .refl _ s

/-! ## At the acceptance -/

/-- `t` is `s` with a command completed because one of its checks failed: an error, PRIM_IDX = 0. -/
def FailsCheck (s t : State) : Prop := ∃ st c, st ≠ .ok ∧ t = s.complete st c 0

theorem failsCheck_complete {st : Status} (h : st ≠ .ok) (c : Cause) (s : State) :
    FailsCheck s (s.complete st c 0) := ⟨st, c, h, rfl⟩

/-- INIT at its acceptance fails a check, or binds a configuration its checks accept and issues
primitive 0 (R200). -/
theorem initBegin_cases (h : HandleConfig) (s : State) :
    FailsCheck s (initBegin h s) ∨
    (s.hstate ≠ .closed ∧ s.hstate ≠ .ready ∧ HandleBound h ∧
      initBegin h s = initStart h s) := by
  unfold initBegin
  split_ifs with hc hr hg hd hk hz
  · exact .inl (failsCheck_complete (by decide) _ s)
  · exact .inl (failsCheck_complete (by decide) _ s)
  · exact .inl (failsCheck_complete (by decide) _ s)
  · exact .inl (failsCheck_complete (by decide) _ s)
  · exact .inl (failsCheck_complete (by decide) _ s)
  · exact .inl (failsCheck_complete (by decide) _ s)
  · rw [Bool.not_eq_false, sixDistinct_iff] at hd
    exact .inr ⟨hc, hr, ⟨hd, not_not.mp hk, hz⟩, rfl⟩

/-- TEARDOWN at its acceptance fails a check, issues the release, or closes the handle (R205). -/
theorem teardownBegin_cases (s : State) :
    FailsCheck s (teardownBegin s) ∨
    (s.hstate ≠ .closed ∧ s.hstate ≠ .uninitialized ∧ s.csAsserted = true ∧
      teardownBegin s = s.issueRelease 0 .release) ∨
    (s.hstate ≠ .closed ∧ s.hstate ≠ .uninitialized ∧ s.csAsserted = false ∧
      teardownBegin s = { s with hstate := .closed }.complete .ok .none 0) := by
  unfold teardownBegin
  split_ifs with hc hu ha
  · exact .inl (failsCheck_complete (by decide) _ s)
  · exact .inl (failsCheck_complete (by decide) _ s)
  · exact .inr (.inl ⟨hc, hu, ha, rfl⟩)
  · exact .inr (.inr ⟨hc, hu, by simpa using ha, rfl⟩)

/-- ASSERT_CS at its acceptance fails a check, or issues the assert (R130). -/
theorem assertCsBegin_cases (s : State) :
    FailsCheck s (assertCsBegin s) ∨
    (s.hstate ≠ .closed ∧ s.hstate ≠ .uninitialized ∧ s.csAsserted = false ∧
      assertCsBegin s = s.issue (setl s.handle.pinCs .low) [] 0 .body) := by
  unfold assertCsBegin
  split_ifs with hc hu ha
  · exact .inl (failsCheck_complete (by decide) _ s)
  · exact .inl (failsCheck_complete (by decide) _ s)
  · exact .inl (failsCheck_complete (by decide) _ s)
  · exact .inr ⟨hc, hu, by simpa using ha, rfl⟩

/-- DEASSERT_CS at its acceptance completes OK, or in READY issues the release (R135). -/
theorem deassertCsBegin_cases (s : State) :
    (s.hstate ≠ .ready ∧ deassertCsBegin s = s.complete .ok .none 0) ∨
    (s.hstate = .ready ∧ deassertCsBegin s = s.issueRelease 0 .release) := by
  unfold deassertCsBegin
  split_ifs with h
  · exact .inl ⟨h, rfl⟩
  · exact .inr ⟨not_not.mp h, rfl⟩

/-- READ_REG or WRITE_REG at its acceptance fails a check, or starts its sequence (R140, R150). -/
theorem exec_transaction_begin {i : Instr} {s : State} (hi : IsTransaction i)
    (hp : s.sq.primPending = false) :
    (∃ t, exec i s = .next t ∧ FailsCheck (s.abortOf i) t) ∨
    (s.hstate ≠ .closed ∧ s.hstate ≠ .uninitialized ∧ addressValid s i ∧ s.csAsserted = false ∧
      exec i s = .next (s.startTransaction (transactionSequence s.handle i))) := by
  cases i with
  | readReg a =>
    rw [exec_readReg, hp, if_neg Bool.false_ne_true, readRegBegin]
    split_ifs with hc hu ha hh
    · exact .inl ⟨_, rfl, failsCheck_complete (by decide) _ _⟩
    · exact .inl ⟨_, rfl, failsCheck_complete (by decide) _ _⟩
    · exact .inl ⟨_, rfl, failsCheck_complete (by decide) _ _⟩
    · exact .inl ⟨_, rfl, failsCheck_complete (by decide) _ _⟩
    · exact .inr ⟨hc, hu, Bool.of_not_eq_false ha, by simpa using hh, rfl⟩
  | writeReg a v =>
    rw [exec_writeReg, hp, if_neg Bool.false_ne_true, writeRegBegin]
    split_ifs with hc hu ha hh
    · exact .inl ⟨_, rfl, failsCheck_complete (by decide) _ _⟩
    · exact .inl ⟨_, rfl, failsCheck_complete (by decide) _ _⟩
    · exact .inl ⟨_, rfl, failsCheck_complete (by decide) _ _⟩
    · exact .inl ⟨_, rfl, failsCheck_complete (by decide) _ _⟩
    · exact .inr ⟨hc, hu, Bool.of_not_eq_false ha, by simpa using hh, rfl⟩
  | _ => exact hi.elim

/-- Whatever the command, its sequence starts with the assert. -/
theorem startTransaction_eq {i : Instr} (hi : IsTransaction i) (s : State) :
    s.startTransaction (transactionSequence s.handle i) =
      { s with hstate := .transacting }.issue (setl s.handle.pinCs .low)
        (transactionSequence s.handle i).tail 0 .body := by
  cases i with
  | readReg a => rfl
  | writeReg a v => rfl
  | _ => exact hi.elim

/-! ## With a primitive in flight -/

/-- ASSERT_CS when its primitive in flight has its outcome (R130, R134). -/
theorem assertCsResume_cases (s : State) :
    (∃ c k, s.sq.phase = .cleanup c k ∧
      assertCsResume s = (s.settle.noteRelease s.outcome).complete .busError c k) ∨
    (s.sq.phase = .release ∧
      assertCsResume s = (s.settle.noteRelease s.outcome).complete .ok .none 0) ∨
    (∃ l, s.sq.phase = .body ∧ s.outcome = .ok l ∧
      assertCsResume s = { s.settle with csAsserted := true }.complete .ok .none 0) ∨
    (s.sq.phase = .body ∧ s.outcome.failed = true ∧
      assertCsResume s = s.settle.issueRelease 1 (.cleanup (causeOf s.outcome) 0)) := by
  unfold assertCsResume
  cases hp : s.sq.phase with
  | cleanup c k => exact .inl ⟨c, k, rfl, rfl⟩
  | release => exact .inr (.inl ⟨rfl, rfl⟩)
  | body =>
    cases ho : s.outcome with
    | ok l => exact .inr (.inr (.inl ⟨l, rfl, rfl, rfl⟩))
    | lineFail => exact .inr (.inr (.inr ⟨rfl, rfl, rfl⟩))
    | timeout => exact .inr (.inr (.inr ⟨rfl, rfl, rfl⟩))

/-- READ_REG and WRITE_REG go on alike; they differ in what they write at the end. -/
theorem exec_transaction_resume {i : Instr} {s : State} (hi : IsTransaction i)
    (hp : s.sq.primPending = true) :
    exec i s = .next (s.transactionResume (State.commitOf i) (State.abortOf i)) := by
  cases i with
  | readReg a => rw [exec_readReg, hp]; rfl
  | writeReg a v => rw [exec_writeReg, hp]; rfl
  | _ => exact hi.elim

end Sys2Proof.Machine

/-! SUPPORT. What a command may write, said once: either it issues one primitive or it completes, from a state
that differs from the one it ran in only in the fields its rules list. Frames, pins and trace follow
(O11, O50 to O53, O58). -/

namespace Sys2Proof.Machine

/-! ## The state a command goes on in -/

/-- The primitive in flight, if there is one, has had its outcome. -/
def State.settled (s : State) : State := if s.sq.primPending then s.settle else s

theorem State.settled_of_pending {s : State} (h : s.sq.primPending = true) : s.settled = s.settle :=
  if_pos h

theorem State.settled_of_idle {s : State} (h : s.sq.primPending = false) : s.settled = s :=
  if_neg (by simp [h])

/-- An answer that is used up changes the script and the counter only. -/
theorem Env.consume_eq (e : Env) :
    e.consume = { e with answers := e.consume.answers, draws := e.consume.draws } := by
  unfold Env.consume
  split <;> rfl

/-- Taking an outcome changes nothing but the sequencer's counters and, in the environment, the answers
and the pins. -/
theorem State.settled_frame (s : State) :
    ∃ pending poll pace answers draws pins,
      s.settled = { s with
        sq := { s.sq with primPending := pending, pollCnt := poll, pace := pace }
        env := { s.env with answers := answers, draws := draws, pins := pins } } := by
  unfold State.settled
  split
  · have used := s.env.consume_eq
    rw [State.settle, used]
    exact ⟨_, _, _, _, _, _, rfl⟩
  · exact ⟨_, _, _, _, _, _, rfl⟩

/-! ## What a command with primitives writes -/

/-- `u` is `b` but for what a bus or life-cycle command `i` writes before it issues its next primitive or
completes. -/
structure Writes (i : Instr) (b u : State) : Prop where
  frame : ∃ hs ca cf r rv hc sh, u = { b with
    hstate := hs, csAsserted := ca, csFault := cf, rdata := r, rdataValid := rv, handle := hc,
    sq := { b.sq with shift := sh } }
  consistent : (b.rdataValid = false → b.rdata = 0) → u.rdataValid = false → u.rdata = 0
  onlyRead : (∀ a, i ≠ .readReg a) → u.rdata = b.rdata ∧ u.rdataValid = b.rdataValid
  onlyInit : ¬ IsInit i → u.handle = b.handle
  onlyTransaction : ¬ IsTransaction i → u.sq.shift = b.sq.shift
  notInit : IsInit i → u.csAsserted = b.csAsserted

/-- What RDATA and CS_FAULT are while the command has not completed. -/
structure Unseen (b u : State) : Prop where
  rdata : u.rdata = b.rdata
  rdataValid : u.rdataValid = b.rdataValid
  csFault : u.csFault = b.csFault

/-- What running a bus or life-cycle command does. -/
inductive CommandEffect (i : Instr) (s t : State) : Prop
  | issues (u : State) (p : Request) (l : List Request) (k : BitVec 8) (ph : SeqPhase)
      (writes : Writes i s.settled u) (unseen : Unseen s.settled u) (eq : t = u.issue p l k ph)
  | completes (u : State) (st : Status) (c : Cause) (k : BitVec 8)
      (writes : Writes i s.settled u) (ok : st = .ok → errInfoWord c k = 0)
      (eq : t = u.complete st c k)

/-- Nothing but the fields of the frame's non-data part changed. -/
theorem Writes.of_control {i : Instr} {b : State} {hs : HState} {ca cf : Bool} {hc : HandleConfig}
    {sh : Word16} (h1 : ¬ IsInit i → hc = b.handle) (h2 : ¬ IsTransaction i → sh = b.sq.shift)
    (h3 : IsInit i → ca = b.csAsserted) :
    Writes i b { b with
      hstate := hs, csAsserted := ca, csFault := cf, handle := hc, sq := { b.sq with shift := sh } } :=
  ⟨⟨_, _, _, _, _, _, _, rfl⟩, id, fun _ => ⟨rfl, rfl⟩, h1, h2, h3⟩

theorem Writes.trans_read {i : Instr} {b v u : State} (hw : Writes i b v) (hr : ReadWrites i v u) :
    Writes i b u := by
  obtain ⟨⟨_, _, _, _, _, _, _, rfl⟩, c, o, h1, h2, h3⟩ := hw
  obtain ⟨⟨_, _, rfl⟩, c', o'⟩ := hr
  exact ⟨⟨_, _, _, _, _, _, _, rfl⟩, c' ∘ c, fun h => by rw [(o' h).1, (o' h).2]; exact o h, h1, h2, h3⟩

section
variable {i : Instr} {s : State}

/-- A failed check completes with an error. -/
theorem CommandEffect.of_failsCheck {u t : State} (hp : s.sq.primPending = false)
    (hw : Writes i s u) (h : FailsCheck u t) : CommandEffect i s t := by
  obtain ⟨st, c, hne, rfl⟩ := h
  exact .completes u st c 0 (by rwa [State.settled_of_idle hp]) (fun e => absurd e hne) rfl

theorem initBegin_effect (hp : s.sq.primPending = false) (hi : IsInit i) (h : HandleConfig) :
    CommandEffect i s (initBegin h s) := by
  have none : Writes i s s := .of_control (fun n => absurd hi n) (fun _ => rfl) (fun _ => rfl)
  obtain f | ⟨-, -, -, e⟩ := initBegin_cases h s
  · exact .of_failsCheck hp none f
  · refine .issues { s with handle := h } _ _ _ _ ?_ ?_ e <;> rw [State.settled_of_idle hp]
    · exact .of_control (fun n => absurd hi n) (fun _ => rfl) (fun _ => rfl)
    · exact ⟨rfl, rfl, rfl⟩

theorem initResume_effect (hp : s.sq.primPending = true) (hi : IsInit i) :
    CommandEffect i s (initResume s) := by
  have control {hs : HState} {cf : Bool} :
      Writes i s.settled { s.settle with hstate := hs, csFault := cf } := by
    rw [State.settled_of_pending hp]
    exact .of_control (fun n => absurd hi n) (fun _ => rfl) (fun _ => rfl)
  obtain ⟨_, _, _, e⟩ | ⟨_, p, l, _, _, e⟩ | ⟨_, e⟩ := initResume_cases s <;> rw [e]
  · exact .completes _ _ _ _ control (fun _ => rfl) rfl
  · refine .issues s.settle p l _ _ control ?_ rfl
    rw [State.settled_of_pending hp]
    exact ⟨rfl, rfl, rfl⟩
  · exact .completes _ _ _ _ control (by nofun) rfl

/-- Issuing the release is issuing a primitive with CS_ASSERTED written to 0 (R23). -/
theorem CommandEffect.of_issueRelease {u : State} {k : BitVec 8} {ph : SeqPhase}
    (hw : Writes i s.settled { u with csAsserted := false }) (hu : Unseen s.settled u) :
    CommandEffect i s (u.issueRelease k ph) :=
  .issues { u with csAsserted := false } _ _ _ _ hw ⟨hu.rdata, hu.rdataValid, hu.csFault⟩ rfl

theorem teardownBegin_effect (hp : s.sq.primPending = false) :
    CommandEffect .teardown s (teardownBegin s) := by
  have control {hs : HState} {ca : Bool} :
      Writes .teardown s.settled { s with hstate := hs, csAsserted := ca } := by
    rw [State.settled_of_idle hp]
    exact .of_control (fun _ => rfl) (fun _ => rfl) (fun h => absurd rfl h.ne_teardown)
  obtain f | ⟨-, -, -, e⟩ | ⟨-, -, -, e⟩ := teardownBegin_cases s
  · rw [State.settled_of_idle hp] at control
    exact .of_failsCheck hp control f
  · rw [e]
    exact .of_issueRelease control (by rw [State.settled_of_idle hp]; exact ⟨rfl, rfl, rfl⟩)
  · exact .completes _ _ _ _ control (fun _ => rfl) e

/-- A release's outcome: the command completes OK, or with the failure it kept. -/
theorem CommandEffect.of_released {hs : HState} {st : Status} {c : Cause} {k : BitVec 8}
    (hi : ¬ IsInit i) (hp : s.sq.primPending = true) (ok : st = .ok → errInfoWord c k = 0) :
    CommandEffect i s ({ s.settle.noteRelease s.outcome with hstate := hs }.complete st c k) := by
  refine .completes _ st c k ?_ ok rfl
  rw [State.settled_of_pending hp]
  exact .of_control (fun _ => rfl) (fun _ => rfl) (fun h => absurd h hi)

theorem assertCsBegin_effect (hp : s.sq.primPending = false) :
    CommandEffect .assertCs s (assertCsBegin s) := by
  have idle := State.settled_of_idle hp
  have none : Writes .assertCs s s := .of_control (fun _ => rfl) (fun _ => rfl) (fun _ => rfl)
  obtain f | ⟨-, -, -, e⟩ := assertCsBegin_cases s
  · exact .of_failsCheck hp none f
  · exact .issues s _ _ _ _ (by rwa [idle]) (by rw [idle]; exact ⟨rfl, rfl, rfl⟩) e

theorem assertCsResume_effect (hp : s.sq.primPending = true) :
    CommandEffect .assertCs s (assertCsResume s) := by
  have ni : ¬ IsInit .assertCs := by simp [IsInit]
  have control {ca : Bool} : Writes .assertCs s.settled { s.settle with csAsserted := ca } := by
    rw [State.settled_of_pending hp]
    exact .of_control (fun _ => rfl) (fun _ => rfl) (fun h => absurd h ni)
  obtain ⟨_, _, _, e⟩ | ⟨_, e⟩ | ⟨_, _, _, e⟩ | ⟨_, _, e⟩ := assertCsResume_cases s <;> rw [e]
  · exact .of_released (hs := s.hstate) ni hp (by nofun)
  · exact .of_released (hs := s.hstate) ni hp (fun _ => rfl)
  · exact .completes _ _ _ _ control (fun _ => rfl) rfl
  · exact .of_issueRelease control (by rw [State.settled_of_pending hp]; exact ⟨rfl, rfl, rfl⟩)

theorem deassertCsBegin_effect (hp : s.sq.primPending = false) :
    CommandEffect .deassertCs s (deassertCsBegin s) := by
  have idle := State.settled_of_idle hp
  have control {ca : Bool} : Writes .deassertCs s.settled { s with csAsserted := ca } := by
    rw [idle]
    exact .of_control (fun _ => rfl) (fun _ => rfl) (by simp [IsInit])
  obtain ⟨-, e⟩ | ⟨-, e⟩ := deassertCsBegin_cases s <;> rw [e]
  · exact .completes s _ _ _ control (fun _ => rfl) rfl
  · exact .of_issueRelease control (by rw [idle]; exact ⟨rfl, rfl, rfl⟩)

section
variable (hi : IsTransaction i)
include hi

/-- What a transaction writes of the handle and the sequencer. -/
theorem IsTransaction.writes {b : State} (hs : HState) (ca cf : Bool) (sh : Word16) :
    Writes i b { b with
      hstate := hs, csAsserted := ca, csFault := cf, sq := { b.sq with shift := sh } } :=
  .of_control (fun _ => rfl) (fun n => absurd hi n) (fun h => absurd h hi.not_isInit)

theorem transactionBegin_effect (hp : s.sq.primPending = false) :
    ∃ t, exec i s = .next t ∧ CommandEffect i s t := by
  have idle := State.settled_of_idle hp
  obtain ⟨t, e, f⟩ | ⟨-, -, -, -, e⟩ := exec_transaction_begin hi hp
  · have none : Writes i s s := hi.writes _ _ _ _
    exact ⟨t, e, .of_failsCheck hp (none.trans_read (readWrites_abortOf i s)) f⟩
  · refine ⟨_, e, .issues { s with hstate := .transacting } _ _ _ _ ?_ ?_ (startTransaction_eq hi s)⟩ <;>
      rw [idle]
    · exact hi.writes .transacting _ _ _
    · exact ⟨rfl, rfl, rfl⟩

theorem transactionResume_effect (hp : s.sq.primPending = true) :
    CommandEffect i s (s.transactionResume (State.commitOf i) (State.abortOf i)) := by
  have pending := State.settled_of_pending hp
  obtain ⟨_, _, _, e⟩ | ⟨_, e⟩ | ⟨l, _, _, e⟩ | ⟨_, _, e⟩ :=
    s.transactionResume_cases (State.commitOf i) (State.abortOf i) <;> rw [e]
  · refine .completes _ _ _ _ (.trans_read ?_ (readWrites_abortOf i _)) (by nofun) rfl
    rw [pending]
    exact hi.writes .ready _ (s.csFault || s.outcome.failed) _
  · refine .completes _ _ _ _ (.trans_read ?_ (readWrites_commitOf i _)) (fun _ => rfl) rfl
    rw [pending]
    exact hi.writes .ready _ (s.csFault || s.outcome.failed) _
  · obtain ⟨p, q, rest, _, e⟩ | ⟨_, e⟩ := (s.settle.absorb l).advance_cases <;> rw [e]
    · refine .issues (s.settle.absorb l) _ _ _ _ ?_ ?_ rfl <;> rw [pending]
      · exact hi.writes _ _ _ _
      · exact ⟨rfl, rfl, rfl⟩
    · refine .of_issueRelease ?_ ?_ <;> rw [pending]
      · exact hi.writes _ false _ _
      · exact ⟨rfl, rfl, rfl⟩
  · refine .of_issueRelease ?_ ?_ <;> rw [pending]
    · exact hi.writes _ false _ _
    · exact ⟨rfl, rfl, rfl⟩

end

end

/-- A bus or life-cycle command issues one primitive or completes. -/
theorem exec_effect {i : Instr} {s t : State} (hi : ¬ IsScaling i) (h : exec i s = .next t) :
    CommandEffect i s t := by
  have transaction (hx : IsTransaction i) : CommandEffect i s t := by
    cases hp : s.sq.primPending with
    | true =>
      cases (exec_transaction_resume hx hp).symm.trans h
      exact transactionResume_effect hx hp
    | false =>
      obtain ⟨u, e, f⟩ := transactionBegin_effect hx hp
      cases e.symm.trans h
      exact f
  cases i with
  | init =>
    rw [exec_init] at h; cases h
    split
    · next hp => exact initResume_effect hp (isInit_init ..)
    · next hp => exact initBegin_effect (by simpa using hp) (isInit_init ..) _
  | teardown =>
    rw [exec_teardown] at h; cases h
    split
    · next hp => exact .of_released (by simp [IsInit]) hp (fun _ => rfl)
    · next hp => exact teardownBegin_effect (by simpa using hp)
  | assertCs =>
    rw [exec_assertCs] at h; cases h
    split
    · next hp => exact assertCsResume_effect hp
    · next hp => exact assertCsBegin_effect (by simpa using hp)
  | deassertCs =>
    rw [exec_deassertCs] at h; cases h
    split
    · next hp => exact .of_released (hs := s.hstate) (by simp [IsInit]) hp (fun _ => rfl)
    · next hp => exact deassertCsBegin_effect (by simpa using hp)
  | readReg a => exact transaction trivial
  | writeReg a v => exact transaction trivial
  | _ => exact absurd trivial hi

end Sys2Proof.Machine

/-! SUPPORT. Frames of the commands, the pins and the trace: what follows from `exec_effect` (O11, O50 to O53,
O58). -/

namespace Sys2Proof.Machine

@[simp] theorem State.settled_rdata (s : State) : s.settled.rdata = s.rdata := by
  obtain ⟨_, _, _, _, _, _, h⟩ := s.settled_frame
  rw [h]

@[simp] theorem State.settled_rdataValid (s : State) : s.settled.rdataValid = s.rdataValid := by
  obtain ⟨_, _, _, _, _, _, h⟩ := s.settled_frame
  rw [h]

@[simp] theorem State.settled_csFault (s : State) : s.settled.csFault = s.csFault := by
  obtain ⟨_, _, _, _, _, _, h⟩ := s.settled_frame
  rw [h]

@[simp] theorem State.settled_csAsserted (s : State) : s.settled.csAsserted = s.csAsserted := by
  obtain ⟨_, _, _, _, _, _, h⟩ := s.settled_frame
  rw [h]

@[simp] theorem State.settled_handle (s : State) : s.settled.handle = s.handle := by
  obtain ⟨_, _, _, _, _, _, h⟩ := s.settled_frame
  rw [h]

@[simp] theorem State.settled_shift (s : State) : s.settled.sq.shift = s.sq.shift := by
  obtain ⟨_, _, _, _, _, _, h⟩ := s.settled_frame
  rw [h]

@[simp] theorem State.settled_trace (s : State) : s.settled.env.trace = s.env.trace := by
  obtain ⟨_, _, _, _, _, _, h⟩ := s.settled_frame
  rw [h]

/-- With no primitive in flight no pin has changed; otherwise the pin named in the request has (R73). -/
theorem State.settled_pins (s : State) :
    s.settled.env.pins =
      if s.sq.primPending then s.env.pins.apply s.sq.preq s.outcome else s.env.pins := by
  unfold State.settled
  split <;> rfl

/-! ## Bus and life-cycle commands -/

section
variable {i : Instr} {s t : State}

/-- The frame of every bus or life-cycle command. -/
theorem CommandEffect.frame (e : CommandEffect i s t) :
    t = { s with
      hstate := t.hstate, csAsserted := t.csAsserted, csFault := t.csFault, rdata := t.rdata,
      rdataValid := t.rdataValid, status := t.status, errInfo := t.errInfo, busy := t.busy,
      rspValid := t.rspValid, handle := t.handle, sq := t.sq,
      env := { s.env with
        answers := t.env.answers, draws := t.env.draws, pins := t.env.pins,
        trace := t.env.trace } } := by
  obtain ⟨_, _, _, _, _, _, settled⟩ := s.settled_frame
  cases e with
  | issues u p l k ph w _ eq =>
    obtain ⟨_, _, _, _, _, _, _, hu⟩ := w.frame
    rw [eq, hu, settled]
    rfl
  | completes u st c k w _ eq =>
    obtain ⟨_, _, _, _, _, _, _, hu⟩ := w.frame
    rw [eq, hu, settled]
    rfl

theorem CommandEffect.read_unchanged (e : CommandEffect i s t) (hr : ∀ a, i ≠ .readReg a) :
    t.rdata = s.rdata ∧ t.rdataValid = s.rdataValid := by
  cases e with
  | issues u _ _ _ _ w _ eq | completes u _ _ _ w _ eq =>
    have h := w.onlyRead hr
    rw [State.settled_rdata, State.settled_rdataValid] at h
    rw [eq]
    exact h

theorem CommandEffect.handle_unchanged (e : CommandEffect i s t) (hi : ¬ IsInit i) :
    t.handle = s.handle := by
  cases e with
  | issues u _ _ _ _ w _ eq | completes u _ _ _ w _ eq =>
    rw [eq, ← s.settled_handle]
    exact w.onlyInit hi

theorem CommandEffect.shift_unchanged (e : CommandEffect i s t) (hi : ¬ IsTransaction i) :
    t.sq.shift = s.sq.shift := by
  cases e with
  | issues u _ _ _ _ w _ eq | completes u _ _ _ w _ eq =>
    rw [eq, ← s.settled_shift]
    exact w.onlyTransaction hi

theorem CommandEffect.csAsserted_unchanged (e : CommandEffect i s t) (hi : IsInit i) :
    t.csAsserted = s.csAsserted := by
  cases e with
  | issues u _ _ _ _ w _ eq | completes u _ _ _ w _ eq =>
    rw [eq, ← s.settled_csAsserted]
    exact w.notInit hi

/-- A command changes the pins by the outcome of its primitive in flight only. -/
theorem CommandEffect.pins (e : CommandEffect i s t) : t.env.pins = s.settled.env.pins := by
  cases e with
  | issues u _ _ _ _ w _ eq | completes u _ _ _ w _ eq =>
    obtain ⟨_, _, _, _, _, _, _, hu⟩ := w.frame
    rw [eq, hu]
    rfl

/-- A command issues the primitive that is then in flight, or none. -/
theorem CommandEffect.trace (e : CommandEffect i s t) :
    t.env.trace = s.env.trace ∨ t.env.trace = s.env.trace ++ [t.sq.preq] ∧ t.sq.primPending = true := by
  rw [← s.settled_trace]
  cases e with
  | issues u _ _ _ _ w _ eq =>
    obtain ⟨_, _, _, _, _, _, _, hu⟩ := w.frame
    rw [eq, hu]
    exact .inr ⟨rfl, rfl⟩
  | completes u _ _ _ w _ eq =>
    obtain ⟨_, _, _, _, _, _, _, hu⟩ := w.frame
    rw [eq, hu]
    exact .inl rfl

end

/-- Settles O51: a bus command writes what `exec_effect` lists, and only a READ_REG writes RDATA. -/
theorem busCommandFrame : Obligations.BusCommandFrame := by
  intro i s t hi h
  have ni : ¬ IsInit i := by
    obtain hx | rfl | rfl := hi
    · exact hx.not_isInit
    · simp [IsInit]
    · simp [IsInit]
  have ns : ¬ IsScaling i := by
    obtain hx | rfl | rfl := hi
    · cases i <;> simp_all [IsTransaction, IsScaling]
    · exact id
    · exact id
  have e := exec_effect ns h
  have frame := e.frame
  rw [e.handle_unchanged ni] at frame
  obtain ⟨hcmd, hopnd⟩ := exec_sameLatch h
  refine ⟨frame, hcmd, hopnd, e.read_unchanged, fun hx => exec_hstate_of_other ni hx ?_ h⟩
  rintro rfl
  obtain hx | hx | hx := hi
  · exact hx
  · cases hx
  · cases hx

/-- INIT sets CS_FAULT when its `SETL(PIN_CS, HIGH)` has failed, and only then (R28, log 12). -/
theorem exec_init_csFault {i : Instr} {s t : State} (hi : IsInit i) (h : exec i s = .next t) :
    t.csFault = (s.csFault || (s.sq.primPending && s.outcome.failed &&
      decide (s.sq.preq = setl s.handle.pinCs .high))) := by
  obtain ⟨_, _, _, _, _, _, _, _, rfl⟩ := hi
  rw [exec_init] at h; cases h
  cases hp : s.sq.primPending with
  | false =>
    rw [if_neg Bool.false_ne_true, Bool.false_and, Bool.false_and, Bool.or_false]
    obtain ⟨_, _, _, e⟩ | ⟨-, -, -, e⟩ := initBegin_cases (HandleConfig.mk ..) s <;> rw [e] <;> rfl
  | true =>
    rw [if_pos rfl]
    obtain ⟨_, ho, _, e⟩ | ⟨_, _, _, ho, _, e⟩ | ⟨ho, e⟩ := initResume_cases s <;> rw [e]
    · simp [ho, PrimOutcome.failed]
    · simp [ho, PrimOutcome.failed]
    · rfl

/-- Settles O52: a life-cycle command writes what `exec_effect` lists. -/
theorem lifecycleFrame : Obligations.LifecycleFrame := by
  intro i s t hi h
  have kinds : i = .teardown ∨ IsInit i := hi
  have ns : ¬ IsScaling i := by
    obtain rfl | ⟨_, _, _, _, _, _, _, _, rfl⟩ := kinds <;> exact id
  have nx : ¬ IsTransaction i := by
    obtain rfl | ⟨_, _, _, _, _, _, _, _, rfl⟩ := kinds <;> exact id
  have e := exec_effect ns h
  have frame := e.frame
  obtain ⟨hr, hv⟩ := e.read_unchanged fun a => by rintro rfl; exact nx trivial
  rw [hr, hv] at frame
  obtain ⟨hcmd, hopnd⟩ := exec_sameLatch h
  refine ⟨frame, hcmd, hopnd, e.shift_unchanged nx, fun hd => ?_, ?_⟩
  · have init := kinds.resolve_left hd
    exact ⟨e.csAsserted_unchanged init, exec_init_csFault init h⟩
  · rintro rfl
    exact e.handle_unchanged (by simp [IsInit])

/-! ## The pins -/

/-- A primitive that is no `setPinMode` of pin `p` leaves its mode. -/
theorem PinBank.apply_mode_other (b : PinBank) (r : Request) (o : PrimOutcome) (p : PinId)
    (h : r.op = .setPinMode → p ≠ r.pin) : (b.apply r o).mode p = b.mode p := by
  unfold PinBank.apply PinBank.mode
  split
  · rfl
  · next hop =>
    have hne : p.toNat ≠ r.pin.toNat := fun e => h hop (BitVec.eq_of_toNat_eq e)
    split
    · exact cellsGet_erase_other hne _
    · exact cellsGet_put_other hne _ _
  · split <;> rfl
  · rfl

/-- A SETL's pin has its level, or is unknown when the SETL failed (R73, U4). -/
theorem PinBank.apply_level_same {r : Request} (h : r.op = .setPinLevel) (b : PinBank)
    (o : PrimOutcome) :
    (b.apply r o).level r.pin = if o.failed then none else some r.arg := by
  simp only [PinBank.apply, h, PinBank.level]
  split
  · exact cellsGet_erase_same ..
  · exact cellsGet_put_same ..

/-- A SETM's pin has its mode, or is unknown when the SETM failed (R73, U6). -/
theorem PinBank.apply_mode_same {r : Request} (h : r.op = .setPinMode) (b : PinBank)
    (o : PrimOutcome) :
    (b.apply r o).mode r.pin = if o.failed then none else some r.arg := by
  simp only [PinBank.apply, h, PinBank.mode]
  split
  · exact cellsGet_erase_same ..
  · exact cellsGet_put_same ..

/-- Settles O53: a command's step applies the outcome of its primitive in flight to the pins, and changes
them in nothing else. -/
theorem pinsChangeOnlyByThePrimitive : Obligations.PinsChangeOnlyByThePrimitive := by
  intro i s t hi h
  have pins := (exec_effect hi h).pins
  rw [State.settled_pins] at pins
  refine ⟨fun hp => by rw [pins, hp]; rfl, fun hp => ?_⟩
  rw [if_pos hp] at pins
  rw [pins]
  refine ⟨fun p hne => ⟨?_, ?_⟩, fun hop => ?_, fun hop => ?_, fun hop => ?_⟩
  · exact PinBank.apply_level_other _ _ _ _ fun _ => hne
  · exact PinBank.apply_mode_other _ _ _ _ fun _ => hne
  · exact PinBank.apply_level_same hop _ _
  · exact PinBank.apply_mode_same hop _ _
  · simp [PinBank.apply, hop]

/-! ## The scaling commands -/

/-- What a scaling command may make of the scale file: nothing, or one constant or the offset set. -/
inductive ScaleWrite (f : ScaleFile) : ScaleFile → Prop
  | keep : ScaleWrite f f
  | lsb (c : Category) (v : F64) : ScaleWrite f (f.setLsb c v)
  | offset (v : F64) : ScaleWrite f { f with tempOffset := v, ofsValid := true }

/-- What running a scaling command does: it completes. -/
inductive ScalingEffect (i : Instr) (s t : State) : Prop
  | mk (r : F64) (f : ScaleFile) (st : Status) (c : Cause) (ok : st = .ok → c = .none)
      (writes : ScaleWrite s.scale f)
      (result : (∀ cat x, i ≠ .scale cat x) → (∀ cat, i ≠ .scaleRd cat) → r = s.result)
      (scale : (∀ cat v, i ≠ .setLsb cat v) → (∀ v, i ≠ .setTempOffset v) → f = s.scale)
      (eq : t = s.completeDatapath r f st c)

/-- The conversion's completion, whatever it answers. -/
theorem completeScale_effect {i : Instr} (s : State) (ans : ScaleAnswer)
    (hi : (∃ cat x, i = .scale cat x) ∨ ∃ cat, i = .scaleRd cat) :
    ScalingEffect i s (s.completeScale ans) := by
  have result {r : F64} (h : ∀ cat x, i ≠ .scale cat x) (h' : ∀ cat, i ≠ .scaleRd cat) :
      r = s.result := by
    obtain ⟨cat, x, e⟩ | ⟨cat, e⟩ := hi
    · exact absurd e (h cat x)
    · exact absurd e (h' cat)
  cases ans with
  | value v => exact ⟨v, s.scale, .ok, .none, fun _ => rfl, .keep, result, fun _ _ => rfl, rfl⟩
  | fail st => exact ⟨0, s.scale, st, .none, fun _ => rfl, .keep, result, fun _ _ => rfl, rfl⟩

/-- A scaling command completes at once. -/
theorem exec_scaling_effect {i : Instr} {s t : State} (hi : IsScaling i) (h : exec i s = .next t) :
    ScalingEffect i s t := by
  cases i with
  | scale cat x =>
    rw [exec_scale] at h; cases h
    exact completeScale_effect s _ (.inl ⟨cat, x, rfl⟩)
  | scaleRd cat =>
    by_cases hcat : categoryOf cat = none
    · cases (exec_scaleRd_of_no_category s hcat).symm.trans h
      exact ⟨_, _, _, _, by nofun, .keep, fun _ h => absurd rfl (h cat), fun _ _ => rfl, rfl⟩
    · cases hr : s.rdataValid with
      | false =>
        cases (exec_scaleRd_of_no_rdata s hcat hr).symm.trans h
        exact ⟨_, _, _, _, by nofun, .keep, fun _ h => absurd rfl (h cat), fun _ _ => rfl, rfl⟩
      | true =>
        cases (exec_scaleRd_of_rdata s hcat hr).symm.trans h
        exact completeScale_effect s _ (.inr ⟨cat, rfl⟩)
  | setLsb cat v =>
    cases hcat : categoryOf cat with
    | none =>
      cases (exec_setLsb_of_no_category s v hcat).symm.trans h
      exact ⟨_, _, _, _, by nofun, .keep, fun _ _ => rfl, fun _ _ => rfl, rfl⟩
    | some c =>
      cases (exec_setLsb_of_category s v hcat).symm.trans h
      exact ⟨_, _, _, _, fun _ => rfl, .lsb c v, fun _ _ => rfl, fun h => absurd rfl (h cat v), rfl⟩
  | setTempOffset v =>
    cases h
    exact ⟨_, _, _, _, fun _ => rfl, .offset v, fun _ _ => rfl, fun _ h => absurd rfl (h v), rfl⟩
  | _ => exact hi.elim

/-- Settles O50: a scaling command completes with what `exec_scaling_effect` lists. -/
theorem scalingFrame : Obligations.ScalingFrame := by
  intro i s t hi h
  obtain ⟨r, f, st, c, -, -, result, scale, rfl⟩ := exec_scaling_effect hi h
  refine ⟨rfl, ?_, ?_, ?_, ?_⟩
  · rintro cat v rfl
    exact result nofun nofun
  · rintro v rfl
    exact result nofun nofun
  · rintro cat x rfl
    exact scale nofun nofun
  · rintro cat rfl
    exact scale nofun nofun

/-! ## Steps -/

/-- Whatever runs, the trace grows by the primitive in flight or not at all. -/
theorem exec_trace {i : Instr} {s t : State} (h : exec i s = .next t) :
    t.env.trace = s.env.trace ∨
      t.env.trace = s.env.trace ++ [t.sq.preq] ∧ t.sq.primPending = true := by
  by_cases hi : IsScaling i
  · obtain ⟨r, f, st, c, -, -, -, -, rfl⟩ := exec_scaling_effect hi h
    exact .inl rfl
  · exact (exec_effect hi h).trace

/-- Settles O11: a step that runs no command issues nothing, and a command issues one primitive or none. -/
theorem onePrimitiveAtATime : Obligations.OnePrimitiveAtATime := by
  intro s t h
  obtain ⟨-, rfl⟩ | ⟨-, -, i, -, he⟩ | ⟨-, -, c, -, rfl⟩ | ⟨-, -, -, rfl⟩ |
    ⟨-, -, cmd, opnd, rest, i, -, -, he⟩ | ⟨-, -, cmd, opnd, rest, c, -, -, rfl⟩ := step_cases h
  · exact .inl (s.takeInput_env_trace)
  · simpa using exec_trace he
  · exact .inl (s.takeInput_env_trace)
  · exact .inl (s.takeInput_env_trace)
  · simpa using exec_trace he
  · exact .inl (s.takeInput_env_trace)

/-- `t` shows a host the data, STATUS and ERR_INFO of `s` (R36). -/
def SameResults (s t : State) : Prop :=
  t.status = s.status ∧ t.errInfo = s.errInfo ∧ t.rdata = s.rdata ∧ t.rdataValid = s.rdataValid ∧
    t.result = s.result ∧ t.rspValid = s.rspValid

/-- A command still running after it has gone on has shown nothing (R36). -/
theorem exec_sameResults {i : Instr} {s t : State} (h : exec i s = .next t) (hb : t.busy = true) :
    SameResults s t := by
  by_cases hi : IsScaling i
  · obtain ⟨r, f, st, c, -, -, -, -, rfl⟩ := exec_scaling_effect hi h
    cases hb
  · cases exec_effect hi h with
    | issues u p l k ph w unseen eq =>
      obtain ⟨_, _, _, _, _, _, settled⟩ := s.settled_frame
      obtain ⟨_, _, _, _, _, _, _, hu⟩ := w.frame
      obtain ⟨hr, hv, -⟩ := unseen
      subst eq
      refine ⟨?_, ?_, hr.trans s.settled_rdata, hv.trans s.settled_rdataValid, ?_, ?_⟩ <;>
        rw [hu, settled] <;> rfl
    | completes u st c k w ok eq =>
      rw [eq] at hb
      cases hb

/-- Settles O58: a step after which a command runs has gone on with one, or accepted one. -/
theorem noPartialResultVisible : Obligations.NoPartialResultVisible := by
  intro s t h hb
  obtain ⟨-, rfl⟩ | ⟨-, -, i, -, he⟩ | ⟨-, -, c, -, rfl⟩ | ⟨-, hs, -, rfl⟩ |
    ⟨-, -, cmd, opnd, rest, i, -, -, he⟩ | ⟨-, -, cmd, opnd, rest, c, -, -, rfl⟩ := step_cases h
  · cases hb
  · exact exec_sameResults he hb
  · cases hb
  · exact absurd (hb.symm.trans hs) (by decide)
  · exact exec_sameResults he hb
  · cases hb

end Sys2Proof.Machine

/-! SUPPORT. The 98 primitives of a transaction, by index and by what they are (O29). -/

namespace Sys2Proof.Machine

/-! ## By index -/

/-- Three entries a bit, most significant bit first: bit i's entries stand from 3 (15 - i) on (R136). -/
theorem getElem?_msbFirst_flatMap {α : Type} (x y z : Nat → α) {i : Nat} (hi : i ≤ 15) :
    (msbFirst.flatMap fun i => [x i, y i, z i])[3 * (15 - i)]? = some (x i) ∧
    (msbFirst.flatMap fun i => [x i, y i, z i])[3 * (15 - i) + 1]? = some (y i) ∧
    (msbFirst.flatMap fun i => [x i, y i, z i])[3 * (15 - i) + 2]? = some (z i) := by
  interval_cases i <;> exact ⟨rfl, rfl, rfl⟩

theorem sendWord_getElem? (h : HandleConfig) (w : Word16) {i : Nat} (hi : i ≤ 15) :
    (sendWord h w)[3 * (15 - i)]? = some (setl h.pinSclk .low) ∧
    (sendWord h w)[3 * (15 - i) + 1]? = some (setl h.pinDout (w.getLsbD i)) ∧
    (sendWord h w)[3 * (15 - i) + 2]? = some (setl h.pinSclk .high) :=
  getElem?_msbFirst_flatMap _ _ _ hi

theorem receiveWord_getElem? (h : HandleConfig) {i : Nat} (hi : i ≤ 15) :
    (receiveWord h)[3 * (15 - i)]? = some (setl h.pinSclk .low) ∧
    (receiveWord h)[3 * (15 - i) + 1]? = some (setl h.pinSclk .high) ∧
    (receiveWord h)[3 * (15 - i) + 2]? = some (getl h.pinDin) :=
  getElem?_msbFirst_flatMap (fun _ => setl h.pinSclk .low) (fun _ => setl h.pinSclk .high)
    (fun _ => getl h.pinDin) hi

/-- The first of two words in a transaction stands at 1 to 48. -/
theorem getElem?_firstWord {x z : Request} {l m : List Request} (hl : l.length = 48) {n j : Nat}
    (hn : n = 1 + j) (hj : j < 48) : (x :: (l ++ m ++ [z]))[n]? = l[j]? := by
  rw [hn, Nat.add_comm, List.getElem?_cons_succ, List.append_assoc, List.getElem?_append_left (by omega)]

/-- The second of two words in a transaction stands at 49 to 96. -/
theorem getElem?_secondWord {x z : Request} {l m : List Request} (hl : l.length = 48)
    (hm : m.length = 48) {n j : Nat} (hn : n = 49 + j) (hj : j < 48) :
    (x :: (l ++ m ++ [z]))[n]? = m[j]? := by
  have split : n = (48 + j) + 1 := by omega
  rw [split, List.getElem?_cons_succ, List.getElem?_append_left (by simp; omega),
    List.getElem?_append_right (by omega), hl, Nat.add_sub_cancel_left]

/-- Settles O29: a transaction is the assert, two words of three primitives a bit, and the release. -/
theorem transactionIndexMap : Obligations.TransactionIndexMap := by
  intro h a v
  refine ⟨rfl, rfl, rfl, rfl, rfl, rfl, fun i hi => ?_⟩
  obtain ⟨r0, r1, r2⟩ := sendWord_getElem? h (reqWord .read a) hi
  obtain ⟨d0, d1, d2⟩ := receiveWord_getElem? h hi
  obtain ⟨w0, w1, w2⟩ := sendWord_getElem? h (reqWord .write a) hi
  obtain ⟨v0, v1, v2⟩ := sendWord_getElem? h v hi
  exact ⟨(getElem?_firstWord rfl rfl (by omega)).trans r0,
    (getElem?_firstWord rfl (by omega) (by omega)).trans r1,
    (getElem?_firstWord rfl (by omega) (by omega)).trans r2,
    (getElem?_secondWord rfl rfl rfl (by omega)).trans d0,
    (getElem?_secondWord rfl rfl (by omega) (by omega)).trans d1,
    (getElem?_secondWord rfl rfl (by omega) (by omega)).trans d2,
    (getElem?_firstWord rfl rfl (by omega)).trans w0,
    (getElem?_firstWord rfl (by omega) (by omega)).trans w1,
    (getElem?_firstWord rfl (by omega) (by omega)).trans w2,
    (getElem?_secondWord rfl rfl rfl (by omega)).trans v0,
    (getElem?_secondWord rfl rfl (by omega) (by omega)).trans v1,
    (getElem?_secondWord rfl rfl (by omega) (by omega)).trans v2⟩

/-! ## By what they are -/

/-- The primitives between a transaction's assert and its release. -/
def transactionBody (h : HandleConfig) : Instr → List Request
  | .readReg a => sendWord h (reqWord .read a) ++ receiveWord h
  | .writeReg a v => sendWord h (reqWord .write a) ++ sendWord h v
  | _ => []

/-- A primitive on the bus pins other than chip-select. -/
inductive BodyRequest (h : HandleConfig) : Request → Prop
  | sclk (l : Level) : BodyRequest h (setl h.pinSclk l)
  | dout (l : Level) : BodyRequest h (setl h.pinDout l)
  | din : BodyRequest h (getl h.pinDin)

theorem bodyRequest_of_mem_sendWord {h : HandleConfig} {w : Word16} {p : Request}
    (hp : p ∈ sendWord h w) : BodyRequest h p := by
  obtain ⟨i, -, hp⟩ := List.mem_flatMap.mp hp
  simp only [sendBit, List.mem_cons, List.not_mem_nil, or_false] at hp
  obtain rfl | rfl | rfl := hp
  · exact .sclk _
  · exact .dout _
  · exact .sclk _

theorem bodyRequest_of_mem_receiveWord {h : HandleConfig} {p : Request}
    (hp : p ∈ receiveWord h) : BodyRequest h p := by
  obtain ⟨i, -, hp⟩ := List.mem_flatMap.mp hp
  simp only [receiveBit, List.mem_cons, List.not_mem_nil, or_false] at hp
  obtain rfl | rfl | rfl := hp
  · exact .sclk _
  · exact .sclk _
  · exact .din

theorem bodyRequest_of_mem {h : HandleConfig} {i : Instr} {p : Request}
    (hp : p ∈ transactionBody h i) : BodyRequest h p := by
  cases i with
  | readReg a =>
    obtain hp | hp := List.mem_append.mp hp
    · exact bodyRequest_of_mem_sendWord hp
    · exact bodyRequest_of_mem_receiveWord hp
  | writeReg a v =>
    obtain hp | hp := List.mem_append.mp hp
    · exact bodyRequest_of_mem_sendWord hp
    · exact bodyRequest_of_mem_sendWord hp
  | _ => cases hp

section
variable {i : Instr} (hi : IsTransaction i) (h : HandleConfig)
include hi

theorem transactionSequence_eq :
    transactionSequence h i =
      setl h.pinCs .low :: (transactionBody h i ++ [setl h.pinCs .high]) := by
  cases i with
  | readReg a => rfl
  | writeReg a v => rfl
  | _ => exact hi.elim

theorem transactionBody_length : (transactionBody h i).length = 96 := by
  cases i with
  | readReg a => rfl
  | writeReg a v => rfl
  | _ => exact hi.elim

theorem transactionSequence_length : (transactionSequence h i).length = 98 := by
  rw [transactionSequence_eq hi]
  simp [transactionBody_length hi]

/-- From primitive 1 on the body and the release are left. -/
theorem drop_transactionSequence {k : Nat} (hk : k < 97) :
    (transactionSequence h i).drop (k + 1) = (transactionBody h i).drop k ++ [setl h.pinCs .high] := by
  rw [transactionSequence_eq hi, List.drop_succ_cons, List.drop_append_of_le_length]
  rw [transactionBody_length hi]
  omega

variable {h} {p : Request} {l : List Request} {k : Nat}
variable (hk : k < 97) (at_k : p :: l = (transactionSequence h i).drop k)
include hk at_k

omit hi hk in
/-- What is left after primitive `k`. -/
theorem left_of_at : l = (transactionSequence h i).drop (k + 1) := by
  rw [← List.drop_drop, ← at_k, List.drop_one, List.tail_cons]

/-- Primitive 0 is the assert; primitives 1 to 96 are on the other bus pins. -/
theorem request_of_at : k = 0 ∧ p = setl h.pinCs .low ∨ k ≠ 0 ∧ BodyRequest h p := by
  match k with
  | 0 =>
    rw [transactionSequence_eq hi] at at_k
    exact .inl ⟨rfl, (List.cons.inj at_k).1⟩
  | k + 1 =>
    rw [drop_transactionSequence hi h (by omega)] at at_k
    refine .inr ⟨by omega, bodyRequest_of_mem (i := i) ?_⟩
    have more : k < (transactionBody h i).length := by rw [transactionBody_length hi]; omega
    rw [List.drop_eq_getElem_cons more] at at_k
    rw [(List.cons.inj at_k).1]
    exact List.getElem_mem more

/-- After primitive 96 the release alone is left; before that, more. -/
theorem next_of_at : k = 96 ∧ l = [setl h.pinCs .high] ∨ k < 96 ∧ ∃ q r rest, l = q :: r :: rest := by
  rw [left_of_at at_k, drop_transactionSequence hi h hk]
  obtain rfl | more : k = 96 ∨ k < 96 := by omega
  · rw [List.drop_of_length_le (by rw [transactionBody_length hi])]
    exact .inl ⟨rfl, rfl⟩
  · have more' : k < (transactionBody h i).length := by rwa [transactionBody_length hi]
    rw [List.drop_eq_getElem_cons more']
    refine .inr ⟨more, ?_⟩
    cases (transactionBody h i).drop (k + 1) with
    | nil => exact ⟨_, _, _, rfl⟩
    | cons q r => exact ⟨_, _, _, rfl⟩

end

end Sys2Proof.Machine

/-! SUPPORT. The rules of INIT, TEARDOWN, ASSERT_CS and DEASSERT_CS (O21 to O23, O25 to O27). -/

namespace Sys2Proof.Machine

/-! ## Words without operands -/

/-- A word that decodes to a command whose row has no free field is that row's match (R105). -/
theorem eq_of_decode_of_fullMask {cmd : CmdWord} {opnd : OpndWord} {i : Instr}
    (full : (tableRow i).2 = 0xFFFFFFFF) (h : decode cmd opnd = .command i) :
    cmd = (tableRow i).1 := by
  have row := (and_mask_eq_match_iff cmd i).mpr (rowFields_of_decode h)
  rw [full] at row
  exact BitVec.and_allOnes.symm.trans row

/-! ## The cause of a failed primitive -/

theorem causeOf_of_failed {o : PrimOutcome} (h : o.failed = true) :
    causeOf o = if o = .timeout then .primTimeout else .primLineFail := by
  cases o with
  | ok l => cases h
  | lineFail => rfl
  | timeout => rfl

theorem code_causeOf_of_failed {o : PrimOutcome} (h : o.failed = true) :
    (causeOf o).code = if o = .timeout then 0x01 else 0x02 := by
  cases o with
  | ok l => cases h
  | lineFail => rfl
  | timeout => rfl

/-! ## INIT -/

section
variable {s : State} {budget : BitVec 16} {cs dr rst dout din sclk : PinId} {clksel : BitVec 4}

theorem exec_init_of_idle (hp : s.sq.primPending = false) :
    exec (.init budget cs dr rst dout din sclk clksel) s =
      .next (initBegin ⟨cs, dr, rst, dout, din, sclk, clksel, budget⟩ s) := by
  rw [exec_init, hp]
  rfl

theorem exec_init_of_pending (hp : s.sq.primPending = true) :
    exec (.init budget cs dr rst dout din sclk clksel) s = .next (initResume s) := by
  rw [exec_init, hp]
  rfl

end

/-- Settles O21: INIT's checks, one after the other. -/
theorem initChecksInOrder : Obligations.InitChecksInOrder := by
  intro s budget cs dr rst dout din sclk clksel hp
  have distinct := sixDistinct_iff cs dr rst dout din sclk
  rw [exec_init_of_idle hp]
  refine ⟨fun hs => ?_, fun hs => ?_, fun hs => ⟨fun hg => ?_, fun hg => ⟨fun hd => ?_, fun hd =>
    ⟨fun hk => ?_, fun hk hb => ?_⟩⟩⟩⟩ <;> refine congrArg _ ?_
  · exact if_pos hs
  · simp [initBegin, hs, State.complete_eq_ended, errInfoWord, Cause.code]
  · simp [initBegin, hs, hg, State.complete_eq_ended, errInfoWord, Cause.code]
  · rw [← distinct] at hd
    simp [initBegin, hs, hg, hd, State.complete_eq_ended, errInfoWord, Cause.code]
  · rw [← distinct] at hd
    simp only [BitVec.ofNat_eq_ofNat, ne_eq] at hk
    simp [initBegin, hs, hg, hd, hk, State.complete_eq_ended, errInfoWord, Cause.code]
  · rw [← distinct] at hd
    simp [initBegin, hs, hg, hd, hk, hb, State.complete_eq_ended, errInfoWord, Cause.code]

/-- Past its checks INIT starts (R200). -/
theorem initBegin_of_checked {s : State} {h : HandleConfig} (hs : s.hstate = .uninitialized)
    (hg : s.env.gpioReady = true) (hb : HandleBound h) : initBegin h s = initStart h s := by
  obtain ⟨hd, hk, hz⟩ := hb
  rw [← sixDistinct_iff] at hd
  simp only [BitVec.ofNat_eq_ofNat, ne_eq] at hz
  simp [initBegin, hs, hg, hd, hk, hz]

/-- Settles O22: an INIT past its checks binds its operands and issues the first of its ten primitives. -/
theorem initBindsAndStarts : Obligations.InitBindsAndStarts := by
  intro s budget cs dr rst dout din sclk hp hs hg hd hb
  rw [exec_init_of_idle hp, initBegin_of_checked hs hg ⟨hd, rfl, hb⟩]
  rfl

/-- Settles O23: INIT at the outcome of its primitive, by `initResume`'s branches. -/
theorem initPrimitiveOutcome : Obligations.InitPrimitiveOutcome := by
  intro s budget cs dr rst dout din sclk clksel hp
  rw [exec_init_of_pending hp]
  refine ⟨fun l ho => ⟨fun hs => ?_, fun p rest hs => ?_⟩, fun hf => ?_⟩
  · have e : initResume s = { s.settle with hstate := .ready }.complete .ok .none 0 := by
      simp [initResume, ho, hs]
    exact ⟨_, rfl, by rw [e]; exact ⟨rfl, rfl, rfl, rfl, rfl, rfl, rfl, by simp⟩⟩
  · have e : initResume s = s.settle.issue p rest (s.sq.pidx + 1) .body := by
      simp [initResume, ho, hs]
    exact ⟨_, rfl, by rw [e]; exact ⟨rfl, rfl, rfl, rfl, rfl, by simp, rfl, rfl⟩⟩
  · obtain ⟨l, ho, -⟩ | ⟨l, _, _, ho, -⟩ | ⟨-, e⟩ := initResume_cases s
    · simp [ho, PrimOutcome.failed] at hf
    · simp [ho, PrimOutcome.failed] at hf
    · refine ⟨_, rfl, ?_⟩
      rw [e]
      refine ⟨rfl, rfl, rfl, ?_, ?_, rfl, rfl, by simp⟩
      · rw [State.complete_errInfo, errInfoWord, code_causeOf_of_failed hf]
      · rw [State.complete_csFault, State.noteCsHigh_csFault, hf]
        rfl

/-! ## TEARDOWN -/

/-- Settles O25: TEARDOWN's word, its checks and its completion, at once or after the release. -/
theorem teardownRule : Obligations.TeardownRule := by
  refine ⟨fun cmd opnd => ⟨fun h => eq_of_decode_of_fullMask rfl h, fun h => by rw [h]; rfl⟩,
    fun s hp => ?_, fun s hp => ?_⟩
  · rw [exec_teardown, hp, if_neg Bool.false_ne_true]
    refine ⟨fun hs => ?_, fun hs => ?_, fun hs ha => ?_, fun hs ha => ?_⟩
    · simp [teardownBegin, hs, State.complete_eq_ended, errInfoWord, Cause.code]
    · simp [teardownBegin, hs, State.complete_eq_ended, errInfoWord, Cause.code]
    · simp [teardownBegin, hs, ha, State.complete_eq_ended, errInfoWord, Cause.code]
    · have e : teardownBegin s = s.issueRelease 0 .release := by simp [teardownBegin, hs, ha]
      exact ⟨_, congrArg _ e, hs, rfl, rfl, rfl, rfl, rfl, rfl⟩
  · rw [exec_teardown, hp]
    exact ⟨_, rfl, rfl, rfl, rfl, rfl, rfl, rfl, rfl, s.env.consume_trace, rfl⟩

/-! ## ASSERT_CS -/

/-- Settles O26: ASSERT_CS's word, its checks, its assert, and each outcome of its primitives. -/
theorem assertCsRule : Obligations.AssertCsRule := by
  refine ⟨fun cmd opnd => ⟨fun h => eq_of_decode_of_fullMask rfl h, fun h => by rw [h]; rfl⟩,
    fun s hp => ?_, fun s l hp hb ho => ?_, fun s hp hb hf => ?_, fun s c k hp hc => ?_⟩
  · rw [exec_assertCs, hp, if_neg Bool.false_ne_true]
    refine ⟨fun hs => ?_, fun hs => ?_, fun hs ha => ?_, fun hs ha => ?_⟩
    · simp [assertCsBegin, hs, State.complete_eq_ended, errInfoWord, Cause.code]
    · simp [assertCsBegin, hs, State.complete_eq_ended, errInfoWord, Cause.code]
    · simp [assertCsBegin, hs, ha, State.complete_eq_ended, errInfoWord, Cause.code]
    · have e : assertCsBegin s = s.issue (setl s.handle.pinCs .low) [] 0 .body := by
        simp [assertCsBegin, hs, ha]
      exact ⟨_, congrArg _ e, hs, ha, rfl, rfl, rfl, rfl, rfl, rfl⟩
  · have e : assertCsResume s = { s.settle with csAsserted := true }.complete .ok .none 0 := by
      simp [assertCsResume, hb, ho]
    rw [exec_assertCs, hp, if_pos rfl, e]
    exact ⟨_, rfl, rfl, rfl, rfl, rfl, rfl, rfl, s.env.consume_trace, rfl⟩
  · rw [exec_assertCs, hp, if_pos rfl, ← causeOf_of_failed hf]
    obtain ⟨c, k, h, -⟩ | ⟨h, -⟩ | ⟨l, -, ho, -⟩ | ⟨-, -, e⟩ := assertCsResume_cases s
    · simp [hb] at h
    · simp [hb] at h
    · simp [ho, PrimOutcome.failed] at hf
    · exact ⟨_, congrArg _ e, rfl, rfl, rfl, rfl, rfl, by simp, rfl⟩
  · have e : assertCsResume s = (s.settle.noteRelease s.outcome).complete .busError c k := by
      simp [assertCsResume, hc]
    rw [exec_assertCs, hp, if_pos rfl, e]
    exact ⟨_, rfl, rfl, rfl, rfl, rfl, rfl, rfl, rfl, s.env.consume_trace, rfl⟩

/-! ## DEASSERT_CS -/

/-- Settles O27: DEASSERT_CS's word, and its OK completion with or without the release. -/
theorem deassertCsRule : Obligations.DeassertCsRule := by
  refine ⟨fun cmd opnd => ⟨fun h => eq_of_decode_of_fullMask rfl h, fun h => by rw [h]; rfl⟩,
    fun s hp => ?_, fun s hp => ?_⟩
  · rw [exec_deassertCs, hp, if_neg Bool.false_ne_true]
    refine ⟨fun hs => congrArg _ (if_pos hs), fun hs => ?_⟩
    have e : deassertCsBegin s = s.issueRelease 0 .release := if_neg (not_not.mpr hs)
    exact ⟨_, congrArg _ e, hs, rfl, rfl, rfl, rfl, rfl, rfl⟩
  · rw [exec_deassertCs, hp]
    exact ⟨_, rfl, rfl, rfl, rfl, rfl, rfl, rfl, rfl, s.env.consume_trace, rfl⟩

end Sys2Proof.Machine

/-! SUPPORT. The rules of READ_REG and WRITE_REG, step by step (O20, O30 to O35). -/

namespace Sys2Proof.Machine

/-! ## At the acceptance -/

section
variable {s : State} (a : RegAddr) (v : Word16) (hp : s.sq.primPending = false)
include hp

theorem exec_readReg_of_idle : exec (.readReg a) s = .next (readRegBegin a s) := by
  rw [exec_readReg, hp]
  rfl

theorem exec_writeReg_of_idle : exec (.writeReg a v) s = .next (writeRegBegin a v s) := by
  rw [exec_writeReg, hp]
  rfl

/-- An address outside VALID_ADDR is the third check (R140). -/
theorem exec_readReg_of_invalid (hs : s.hstate = .ready) (ha : s.addrValid a = false) :
    exec (.readReg a) s =
      .next ({ s with rdata := 0, rdataValid := false }.ended .invalidAddress 0) := by
  rw [exec_readReg_of_idle a hp]
  simp [readRegBegin, hs, ha, State.clearRead, State.complete_eq_ended, errInfoWord, Cause.code]

/-- An address outside VALID_ADDR is the third check (R150). -/
theorem exec_writeReg_of_invalid (hs : s.hstate = .ready) (ha : s.addrValid a = false) :
    exec (.writeReg a v) s = .next (s.ended .invalidAddress 0) := by
  rw [exec_writeReg_of_idle a v hp]
  simp [writeRegBegin, hs, ha, State.complete_eq_ended, errInfoWord, Cause.code]

end

theorem addrValid_eq_true_iff (s : State) (a : RegAddr) :
    s.addrValid a = true ↔ a ∈ s.cfg.validAddr := by
  simp [State.addrValid]

theorem addrValid_eq_false_iff (s : State) (a : RegAddr) :
    s.addrValid a = false ↔ a ∉ s.cfg.validAddr := by
  rw [← addrValid_eq_true_iff, Bool.not_eq_true]

/-- What VALID_ADDR may hold is even and below 0x80 (R64). -/
theorem addrInRange_iff (a : RegAddr) : addrInRange a = true ↔ a.toNat % 2 = 0 ∧ a.toNat < 0x80 := by
  revert a; decide

/-- A VALID_ADDR that meets R64 holds no other address. -/
theorem addrInRange_of_mem {c : Config} (hc : c.wf = true) {a : RegAddr} (ha : a ∈ c.validAddr) :
    addrInRange a = true := by
  simp only [Config.wf, Bool.and_eq_true, List.all_eq_true] at hc
  exact hc.1.1.1.1.1 a ha

/-- Settles O20: R64 keeps such an address out of VALID_ADDR. -/
theorem oddAddressIsInvalid : Obligations.OddAddressIsInvalid := by
  intro s a v hc hp hs ha
  have invalid : s.addrValid a = false := by
    rw [addrValid_eq_false_iff]
    intro mem
    have := (addrInRange_iff a).mp (addrInRange_of_mem hc mem)
    omega
  exact ⟨exec_readReg_of_invalid a hp hs invalid, exec_writeReg_of_invalid a v hp hs invalid⟩

/-- A transaction past its checks starts (R140, R150). -/
theorem exec_transaction_start {i : Instr} {s : State} (hi : IsTransaction i)
    (hp : s.sq.primPending = false) (hs : s.hstate = .ready) (ha : addressValid s i)
    (hc : s.csAsserted = false) :
    exec i s = .next ({ s with hstate := .transacting }.issue (setl s.handle.pinCs .low)
      (transactionSequence s.handle i).tail 0 .body) := by
  rw [← startTransaction_eq hi]
  cases i with
  | readReg a =>
    have ha : s.addrValid a = true := ha
    rw [exec_readReg_of_idle a hp]
    simp [readRegBegin, hs, ha, hc, transactionSequence]
  | writeReg a v =>
    have ha : s.addrValid a = true := ha
    rw [exec_writeReg_of_idle a v hp]
    simp [writeRegBegin, hs, ha, hc, transactionSequence]
  | _ => exact hi.elim

/-- Where a transaction stands once its assert is issued. -/
theorem transactionAt_start {i : Instr} {s : State} (hi : IsTransaction i)
    (hc : s.csAsserted = false) :
    TransactionAt (transactionSequence s.handle i) (s.issue (setl s.handle.pinCs .low)
      (transactionSequence s.handle i).tail 0 .body) := by
  refine ⟨(by decide : (0 : BitVec 8).toNat < 97), ?_, hc⟩
  rw [transactionSequence_eq hi]
  rfl

/-- Settles O30: READ_REG's checks, one after the other, and the start. -/
theorem readRegChecksAndStart : Obligations.ReadRegChecksAndStart := by
  intro s a hp
  refine ⟨fun hs => ?_, fun hs => ?_, fun hs ha => ?_, fun hs ha hh => ?_, fun hs ha hh => ?_⟩
  · rw [exec_readReg_of_idle a hp]
    exact congrArg _ (if_pos hs)
  · rw [exec_readReg_of_idle a hp]
    simp [readRegBegin, hs, State.clearRead, State.complete_eq_ended, errInfoWord, Cause.code]
  · exact exec_readReg_of_invalid a hp hs ((addrValid_eq_false_iff s a).mpr ha)
  · rw [← addrValid_eq_true_iff] at ha
    rw [exec_readReg_of_idle a hp]
    simp [readRegBegin, hs, ha, hh, State.clearRead, State.complete_eq_ended, errInfoWord, Cause.code]
  · rw [← addrValid_eq_true_iff] at ha
    have start := exec_transaction_start (i := .readReg a) trivial hp hs ha hh
    exact ⟨_, start, rfl, rfl, rfl, transactionAt_start (i := .readReg a)
      (s := { s with hstate := .transacting }) trivial hh, rfl, rfl, rfl, rfl, rfl, rfl, rfl⟩

/-- Settles O31: WRITE_REG's checks, one after the other, and the start. -/
theorem writeRegChecksAndStart : Obligations.WriteRegChecksAndStart := by
  intro s a v hp
  refine ⟨fun hs => ?_, fun hs => ?_, fun hs ha => ?_, fun hs ha hh => ?_, fun hs ha hh => ?_⟩
  · rw [exec_writeReg_of_idle a v hp]
    exact congrArg _ (if_pos hs)
  · rw [exec_writeReg_of_idle a v hp]
    simp [writeRegBegin, hs, State.complete_eq_ended, errInfoWord, Cause.code]
  · exact exec_writeReg_of_invalid a v hp hs ((addrValid_eq_false_iff s a).mpr ha)
  · rw [← addrValid_eq_true_iff] at ha
    rw [exec_writeReg_of_idle a v hp]
    simp [writeRegBegin, hs, ha, hh, State.complete_eq_ended, errInfoWord, Cause.code]
  · rw [← addrValid_eq_true_iff] at ha
    have start := exec_transaction_start (i := .writeReg a v) trivial hp hs ha hh
    exact ⟨_, start, rfl, rfl, rfl, transactionAt_start (i := .writeReg a v)
      (s := { s with hstate := .transacting }) trivial hh, rfl, rfl, rfl, rfl, rfl⟩

/-! ## A primitive of the body -/

/-- Writing one bit of SHIFT (R133). -/
theorem getLsbD_setBit (w : Word16) {i j : Nat} (b : Bool) (hj : j < 16) :
    (setBit w i b).getLsbD j = if j = i then b else w.getLsbD j := by
  have one_bit : ((1 : Word16) <<< i).getLsbD j = decide (j = i) := by
    simp only [BitVec.ofNat_eq_ofNat, BitVec.getLsbD_shiftLeft, BitVec.getLsbD_one]
    grind
  unfold setBit
  cases b
  · rw [if_neg Bool.false_ne_true, BitVec.getLsbD_and, BitVec.getLsbD_not, one_bit]
    grind
  · rw [if_pos rfl, BitVec.getLsbD_or, one_bit]
    grind

/-- An index of the body has a successor. -/
theorem toNat_index_add_one {k : BitVec 8} (h : k.toNat < 97) : (k + 1).toNat = k.toNat + 1 := by
  rw [BitVec.toNat_add]
  exact Nat.mod_eq_of_lt (by change k.toNat + 1 < 256; omega)

section
variable {i : Instr} {s : State}

/-- Where the body of a transaction stands, taken apart. -/
theorem TransactionAt.of_body {l : List Request} (h : TransactionAt l s) (hb : s.sq.phase = .body) :
    s.sq.pidx.toNat < 97 ∧ s.sq.preq :: s.sq.seq = l.drop s.sq.pidx.toNat ∧
      s.csAsserted = decide (s.sq.pidx.toNat ≠ 0) := by
  rwa [TransactionAt, hb] at h

/-- From the OK of primitive 0 on chip-select is held (R23). -/
theorem absorb_csAsserted_of_at (h : s.csAsserted = decide (s.sq.pidx.toNat ≠ 0)) (l : Level) :
    (s.settle.absorb l).csAsserted = true := by
  rw [State.absorb_csAsserted, State.settle_sq_pidx, State.settle_csAsserted, h]
  split
  · rfl
  · next hk => exact decide_eq_true fun e => hk (BitVec.eq_of_toNat_eq e)

variable (hi : IsTransaction i) (hat : TransactionAt (transactionSequence s.handle i) s)
  (hb : s.sq.phase = .body) {l : Level} (ho : s.outcome = .ok l)
include hi hat hb ho

/-- An OK primitive of the body is followed by the next one of the sequence, the release last. -/
theorem transactionResume_ok :
    (s.sq.pidx.toNat = 96 ∧ s.transactionResume (State.commitOf i) (State.abortOf i) =
      (s.settle.absorb l).issueRelease (s.sq.pidx + 1) .release) ∨
    (s.sq.pidx.toNat < 96 ∧ ∃ q r rest, s.sq.seq = q :: r :: rest ∧
      s.transactionResume (State.commitOf i) (State.abortOf i) =
        (s.settle.absorb l).issue q (r :: rest) (s.sq.pidx + 1) .body) := by
  obtain ⟨hk, seq, -⟩ := hat.of_body hb
  have e : s.transactionResume (State.commitOf i) (State.abortOf i) =
      (s.settle.absorb l).advance := by simp [State.transactionResume, hb, ho]
  rw [e]
  have seq_eq : (s.settle.absorb l).sq.seq = s.sq.seq := rfl
  obtain ⟨last, left⟩ | ⟨more, q, r, rest, left⟩ := next_of_at hi hk seq
  · refine .inl ⟨last, ?_⟩
    rw [State.advance, seq_eq, left]
    rfl
  · refine .inr ⟨more, q, r, rest, left, ?_⟩
    rw [State.advance, seq_eq, left]
    rfl

/-- After an OK primitive of the body the transaction stands one further on its sequence. -/
theorem transactionResume_ok_at :
    ∃ t, s.transactionResume (State.commitOf i) (State.abortOf i) = t ∧
      t.sq.pidx.toNat = s.sq.pidx.toNat + 1 ∧
      (transactionSequence s.handle i)[t.sq.pidx.toNat]? = some t.sq.preq ∧
      TransactionAt (transactionSequence s.handle i) t ∧
      t.csAsserted = decide (t.sq.pidx.toNat < 97) := by
  obtain ⟨hk, seq, hc⟩ := hat.of_body hb
  have index := toNat_index_add_one hk
  have left := left_of_at seq
  have next : (transactionSequence s.handle i)[(s.sq.pidx + 1).toNat]? = s.sq.seq.head? := by
    rw [left, List.head?_drop, index]
  refine ⟨_, rfl, ?_⟩
  obtain ⟨last, e⟩ | ⟨more, q, r, rest, left', e⟩ := transactionResume_ok hi hat hb ho <;> rw [e]
  · obtain ⟨-, left'⟩ | ⟨more, -⟩ := next_of_at hi hk seq
    · refine ⟨index, ?_, ⟨index.trans (by rw [last]), rfl, rfl, rfl⟩, ?_⟩
      · exact next.trans (by rw [left']; rfl)
      · exact (decide_eq_false (by rw [State.issueRelease_sq_pidx]; omega)).symm
    · omega
  · refine ⟨index, ?_, ⟨?_, ?_, ?_⟩, ?_⟩
    · exact next.trans (by rw [left']; rfl)
    · rw [State.issue_sq_pidx]; omega
    · rw [State.issue_sq_preq, State.issue_sq_seq, State.issue_sq_pidx, index, ← left, left']
    · rw [State.issue_csAsserted, absorb_csAsserted_of_at hc, State.issue_sq_pidx, index]
      exact (decide_eq_true (by omega)).symm
    · rw [State.issue_csAsserted, absorb_csAsserted_of_at hc, State.issue_sq_pidx, index]
      exact (decide_eq_true (by omega)).symm

/-- A GETL's level goes to its bit of SHIFT (R133, R136). -/
theorem transactionResume_ok_shift {j : Nat} (hj : j < 16) :
    (s.transactionResume (State.commitOf i) (State.abortOf i)).sq.shift.getLsbD j =
      if s.sq.preq.op = .readPinLevel ∧ j = 15 - (s.sq.pidx.toNat - 51) / 3 then l
      else s.sq.shift.getLsbD j := by
  have shift : (s.transactionResume (State.commitOf i) (State.abortOf i)).sq.shift =
      (s.settle.absorb l).sq.shift := by
    obtain ⟨-, e⟩ | ⟨-, _, _, _, -, e⟩ := transactionResume_ok hi hat hb ho <;> rw [e] <;> rfl
  rw [shift, State.absorb_sq_shift, State.settle_sq_preq, State.settle_sq_shift, State.settle_sq_pidx]
  split
  · next hop => simp only [getLsbD_setBit _ _ hj, hop, true_and, dataBitOf]
  · next hop => rw [if_neg fun h => hop h.1]

end

/-- Settles O32: `transactionResume_ok` and what it says of the sequence and of SHIFT. -/
theorem transactionPrimitiveOk : Obligations.TransactionPrimitiveOk := by
  intro s i l hi hp hb hat ho
  obtain ⟨t, rfl, hk, hreq, hat', hc⟩ := transactionResume_ok_at hi hat hb ho
  have shift {j : Nat} (hj : j < 16) := transactionResume_ok_shift hi hat hb ho hj
  refine ⟨_, exec_transaction_resume hi hp, ?_, hk, hreq, ?_, hat', hc, fun j hj => shift hj, ?_⟩ <;>
    obtain ⟨-, e⟩ | ⟨-, _, _, _, -, e⟩ := transactionResume_ok hi hat hb ho <;> rw [e]
  · rfl
  · rfl
  · exact congrArg (· ++ _) s.env.consume_trace
  · exact congrArg (· ++ _) s.env.consume_trace
  · exact ⟨rfl, rfl, rfl⟩
  · exact ⟨rfl, rfl, rfl⟩

/-- Settles O33: a failed primitive of the body is followed by the release alone. -/
theorem transactionPrimitiveFails : Obligations.TransactionPrimitiveFails := by
  intro s i hi hp hb hf
  obtain ⟨c, k, h, -⟩ | ⟨h, -⟩ | ⟨l, -, ho, -⟩ | ⟨-, -, e⟩ :=
    s.transactionResume_cases (State.commitOf i) (State.abortOf i)
  · simp [hb] at h
  · simp [hb] at h
  · simp [ho, PrimOutcome.failed] at hf
  · rw [← causeOf_of_failed hf]
    refine ⟨_, (exec_transaction_resume hi hp).trans (congrArg _ e), rfl, rfl, rfl, rfl, ?_, rfl⟩
    exact congrArg (· ++ _) s.env.consume_trace

/-! ## At the release -/

section
variable {i : Instr} {s : State} (hi : IsTransaction i) (hp : s.sq.primPending = true)
include hi hp

/-- The outcome of the last release completes the transaction OK (R134, R140, R150). -/
theorem exec_transaction_released (hr : s.sq.phase = .release) :
    exec i s = .next ((State.commitOf i { s.settle.noteRelease s.outcome with hstate := .ready }).complete
      .ok .none 0) := by
  rw [exec_transaction_resume hi hp]
  simp [State.transactionResume, hr]

/-- The outcome of the release after a failure completes it with the failure that was kept (R137). -/
theorem exec_transaction_cleaned {c : Cause} {k : BitVec 8} (hr : s.sq.phase = .cleanup c k) :
    exec i s = .next ((State.abortOf i { s.settle.noteRelease s.outcome with hstate := .ready }).complete
      .busError c k) := by
  rw [exec_transaction_resume hi hp]
  simp [State.transactionResume, hr]

end

/-- Settles O34: both completions of READ_REG, with what they write of RDATA. -/
theorem readRegCompletes : Obligations.ReadRegCompletes := by
  intro s a hp
  have hi := isTransaction_readReg a
  refine ⟨fun hr => ?_, fun c k hr => ?_⟩
  · exact ⟨_, exec_transaction_released hi hp hr, rfl, rfl, rfl, rfl, rfl, rfl, rfl, rfl, rfl, rfl,
      rfl, s.env.consume_trace⟩
  · exact ⟨_, exec_transaction_cleaned hi hp hr, rfl, rfl, rfl, rfl, rfl, rfl, rfl, rfl, rfl, rfl,
      rfl, s.env.consume_trace⟩

/-- Settles O35: both completions of WRITE_REG, which write no data. -/
theorem writeRegCompletes : Obligations.WriteRegCompletes := by
  intro s a v hp
  have hi := isTransaction_writeReg a v
  refine ⟨fun hr => ?_, fun c k hr => ?_⟩
  · exact ⟨_, exec_transaction_released hi hp hr, rfl, rfl, rfl, rfl, rfl, rfl, rfl, rfl, rfl,
      s.env.consume_trace⟩
  · exact ⟨_, exec_transaction_cleaned hi hp hr, rfl, rfl, rfl, rfl, rfl, rfl, rfl, rfl, rfl,
      s.env.consume_trace⟩

end Sys2Proof.Machine

/-! SUPPORT. Every step keeps the machine's invariant (O54), and what follows for reset (O18). -/

namespace Sys2Proof.Machine

/-! ## The invariant in parts -/

/-- What the invariant says of the handle (R22, R23, R200). -/
structure State.HandleInv (s : State) : Prop where
  held : s.csAsserted = true → s.hstate = .ready ∨ s.hstate = .transacting
  bound : s.hstate ≠ .uninitialized → HandleBound s.handle

/-- What the invariant says of the data registers, the scale file and the pins' record. -/
structure State.DataInv (s : State) : Prop where
  noPartialRead : s.rdataValid = false → s.rdata = 0
  okDetail : s.status = .ok → s.errInfo = 0
  unsetLsb : ∀ c : Category, s.scale.isValid c = false → s.scale.lsb c = 0
  unsetOffset : s.scale.ofsValid = false → s.scale.tempOffset = 0
  pinsCanonical : s.env.pins.wf

theorem State.Inv.handleInv {s : State} (h : s.Inv) : s.HandleInv := ⟨h.held, h.bound⟩

theorem State.Inv.dataInv {s : State} (h : s.Inv) : s.DataInv :=
  ⟨h.noPartialRead, h.okDetail, h.unsetLsb, h.unsetOffset, h.pinsCanonical⟩

/-- The input event that lands and the acceptance touch no data. -/
theorem State.DataInv.congr {s t : State} (h : s.DataInv) (h1 : t.rdata = s.rdata)
    (h2 : t.rdataValid = s.rdataValid) (h3 : t.status = s.status) (h4 : t.errInfo = s.errInfo)
    (h5 : t.scale = s.scale) (h6 : t.env.pins = s.env.pins) : t.DataInv where
  noPartialRead := by rw [h1, h2]; exact h.noPartialRead
  okDetail := by rw [h3, h4]; exact h.okDetail
  unsetLsb := by rw [h5]; exact h.unsetLsb
  unsetOffset := by rw [h5]; exact h.unsetOffset
  pinsCanonical := by rw [h6]; exact h.pinsCanonical

/-- With HSTATE and the handle kept, CS_ASSERTED may fall. -/
theorem State.HandleInv.congr {s t : State} (h : s.HandleInv) (h1 : t.hstate = s.hstate)
    (h2 : t.handle = s.handle) (h3 : t.csAsserted = true → s.csAsserted = true) : t.HandleInv where
  held hc := by rw [h1]; exact h.held (h3 hc)
  bound := by rw [h1, h2]; exact h.bound

/-- An idle block between commands: the invariant is its parts. -/
theorem inv_of_idle {s : State} (hb : s.busy = false) (ht : s.hstate ≠ .transacting)
    (hq : s.sq.seq = [] ∧ s.sq.primPending = false ∧ s.sq.phase = .body) (hh : s.HandleInv)
    (hd : s.DataInv) : s.Inv where
  running h := by simp [hb] at h
  idle _ := ⟨ht, hq⟩
  held := hh.held
  bound := hh.bound
  noPartialRead := hd.noPartialRead
  okDetail := hd.okDetail
  unsetLsb := hd.unsetLsb
  unsetOffset := hd.unsetOffset
  pinsCanonical := hd.pinsCanonical
  response _ := hb

/-- A busy block: the invariant is its parts and where the command stands. -/
theorem inv_of_busy {s : State} {i : Instr} (hp : s.sq.primPending = true)
    (hi : decode s.sq.cmdL s.sq.opndL = .command i) (hR : Running s i) (hr : s.rspValid = false)
    (hb : s.busy = true) (hh : s.HandleInv) (hd : s.DataInv) : s.Inv where
  running _ := ⟨hp, i, hi, hR⟩
  idle h := by simp [hb] at h
  held := hh.held
  bound := hh.bound
  noPartialRead := hd.noPartialRead
  okDetail := hd.okDetail
  unsetLsb := hd.unsetLsb
  unsetOffset := hd.unsetOffset
  pinsCanonical := hd.pinsCanonical
  response h := by simp [hr] at h

/-! ## Where a command may leave the machine -/

/-- `t` is a state in which command `i` may stand after it has gone on: completed in a handle state that
is not TRANSACTING, or running at one of its places. -/
structure Lands (i : Instr) (t : State) : Prop where
  handle : t.HandleInv
  running : t.busy = true → Running t i
  completed : t.busy = false → t.hstate ≠ .transacting

theorem Lands.of_complete {i : Instr} {u : State} {st : Status} {c : Cause} {k : BitVec 8}
    (hh : u.HandleInv) (ht : u.hstate ≠ .transacting) : Lands i (u.complete st c k) where
  handle := hh.congr rfl rfl id
  running := nofun
  completed _ := ht

theorem Lands.of_running {i : Instr} {t : State} (hh : t.HandleInv) (hb : t.busy = true)
    (hR : Running t i) : Lands i t where
  handle := hh
  running _ := hR
  completed h := by simp [hb] at h

/-- A failed check leaves the handle as it was. -/
theorem Lands.of_failsCheck {i : Instr} {u t : State} (hh : u.HandleInv)
    (ht : u.hstate ≠ .transacting) (h : FailsCheck u t) : Lands i t := by
  obtain ⟨st, c, -, rfl⟩ := h
  exact .of_complete hh ht

/-- The release in flight leaves CS_ASSERTED at 0, in whatever state the handle then is (R23). -/
theorem State.HandleInv.of_deselected {t : State} (hc : t.csAsserted = false)
    (hb : HandleBound t.handle) : t.HandleInv where
  held h := by simp [hc] at h
  bound _ := hb

/-! ## At the acceptance -/

theorem running_transaction_iff {i : Instr} (hi : IsTransaction i) (s : State) :
    Running s i ↔ s.hstate = .transacting ∧ addressValid s i ∧
      TransactionAt (transactionSequence s.handle i) s := by
  cases i with
  | readReg a => exact Iff.rfl
  | writeReg a v => exact Iff.rfl
  | _ => exact hi.elim

/-- Whether an address is valid depends on the parameters only (R64). -/
theorem addressValid_congr {i : Instr} {s t : State} (h : t.cfg = s.cfg) (ha : addressValid s i) :
    addressValid t i := by
  cases i with
  | readReg a | writeReg a v =>
    rw [addressValid, State.addrValid, h]
    exact ha
  | _ => trivial

section
variable {i : Instr} {s t : State} (hb : s.busy = true) (ht : s.hstate ≠ .transacting)
  (hh : s.HandleInv)
include hb ht hh

theorem initBegin_lands {budget : BitVec 16} {cs dr rst dout din sclk : PinId} {clksel : BitVec 4} :
    Lands (.init budget cs dr rst dout din sclk clksel)
      (initBegin ⟨cs, dr, rst, dout, din, sclk, clksel, budget⟩ s) := by
  obtain f | ⟨hc, hr, bound, e⟩ := initBegin_cases ⟨cs, dr, rst, dout, din, sclk, clksel, budget⟩ s
  · exact .of_failsCheck hh ht f
  · have hu : s.hstate = .uninitialized := by cases h : s.hstate <;> simp_all
    have free : s.csAsserted = false := by
      by_contra h
      have := hh.held (by simpa using h)
      simp [hu] at this
    rw [e]
    exact .of_running (.of_deselected free bound) hb
      ⟨hu, free, rfl, rfl, bound, (by decide : (0 : BitVec 8).toNat < 10), rfl⟩

theorem teardownBegin_lands : Lands .teardown (teardownBegin s) := by
  obtain f | ⟨hc, hu, -, e⟩ | ⟨-, hu, free, e⟩ := teardownBegin_cases s
  · exact .of_failsCheck hh ht f
  · rw [e]
    exact .of_running (.of_deselected rfl (hh.bound hu)) hb
      ⟨HState.eq_ready hc hu ht, rfl, rfl, rfl, rfl, rfl⟩
  · rw [e]
    exact .of_complete (.of_deselected free (hh.bound hu)) nofun

theorem assertCsBegin_lands : Lands .assertCs (assertCsBegin s) := by
  obtain f | ⟨hc, hu, free, e⟩ := assertCsBegin_cases s
  · exact .of_failsCheck hh ht f
  · rw [e]
    exact .of_running (.of_deselected free (hh.bound hu)) hb
      ⟨HState.eq_ready hc hu ht, rfl, rfl, rfl, free⟩

theorem deassertCsBegin_lands : Lands .deassertCs (deassertCsBegin s) := by
  obtain ⟨-, e⟩ | ⟨hr, e⟩ := deassertCsBegin_cases s <;> rw [e]
  · exact .of_complete hh ht
  · exact .of_running (.of_deselected rfl (hh.bound (by simp [hr]))) hb ⟨hr, rfl, rfl, rfl, rfl, rfl⟩

theorem transactionBegin_lands (hi : IsTransaction i) (hp : s.sq.primPending = false)
    (h : exec i s = .next t) : Lands i t := by
  obtain ⟨u, e, f⟩ | ⟨-, hu, ha, free, e⟩ := exec_transaction_begin hi hp
  · cases e.symm.trans h
    obtain ⟨_, _, frame⟩ := (readWrites_abortOf i s).frame
    refine .of_failsCheck (hh.congr ?_ ?_ ?_) ?_ f <;> rw [frame]
    · exact id
    · exact ht
  · rw [startTransaction_eq hi] at e
    cases e.symm.trans h
    exact .of_running (.of_deselected free (hh.bound hu)) hb ((running_transaction_iff hi _).mpr
      ⟨rfl, addressValid_congr (by rfl) ha,
        transactionAt_start (s := { s with hstate := .transacting }) hi free⟩)

/-- A command at its acceptance fails a check, completes, or stands on its first primitive. -/
theorem exec_lands_of_accepted (hp : s.sq.primPending = false) (hi : ¬ IsScaling i)
    (h : exec i s = .next t) : Lands i t := by
  cases i with
  | init =>
    rw [exec_init_of_idle hp] at h; cases h
    exact initBegin_lands hb ht hh
  | teardown =>
    rw [exec_teardown, hp] at h; cases h
    exact teardownBegin_lands hb ht hh
  | assertCs =>
    rw [exec_assertCs, hp] at h; cases h
    exact assertCsBegin_lands hb ht hh
  | deassertCs =>
    rw [exec_deassertCs, hp] at h; cases h
    exact deassertCsBegin_lands hb ht hh
  | readReg a => exact transactionBegin_lands hb ht hh trivial hp h
  | writeReg a v => exact transactionBegin_lands hb ht hh trivial hp h
  | _ => exact absurd trivial hi

end

/-! ## With a primitive in flight -/

/-- A failed primitive has one of the two causes. -/
theorem isPrimCause_causeOf {o : PrimOutcome} (h : o.failed = true) : IsPrimCause (causeOf o) := by
  cases o with
  | ok l => cases h
  | lineFail => exact .inr rfl
  | timeout => exact .inl rfl

section
variable {i : Instr} {s t : State} (hb : s.busy = true) (hh : s.HandleInv)
include hb hh

omit hh in
theorem initResume_lands {budget : BitVec 16} {cs dr rst dout din sclk : PinId} {clksel : BitVec 4}
    (hR : Running s (.init budget cs dr rst dout din sclk clksel)) :
    Lands (.init budget cs dr rst dout din sclk clksel) (initResume s) := by
  obtain ⟨hu, free, -, params, bound, hk, seq⟩ := hR
  obtain ⟨_, _, _, e⟩ | ⟨_, p, rest, _, left, e⟩ | ⟨_, e⟩ := initResume_cases s <;> rw [e]
  · exact .of_complete (.of_deselected free bound) nofun
  · have left' : p :: rest = (initSequence s.handle).drop (s.sq.pidx.toNat + 1) := by
      rw [← left, ← List.drop_drop, ← seq, List.drop_one, List.tail_cons]
    have more : s.sq.pidx.toNat + 1 < 10 := by
      by_contra hn
      rw [List.drop_of_length_le (by simp [initSequence]; omega)] at left'
      cases left'
    have index := toNat_index_add_one (k := s.sq.pidx) (by omega)
    refine .of_running (.of_deselected free bound) hb ⟨hu, free, rfl, params, bound, ?_, ?_⟩
    · rw [State.issue_sq_pidx, index]; exact more
    · rw [State.issue_sq_preq, State.issue_sq_seq, State.issue_sq_pidx, index]; exact left'
  · exact .of_complete (.of_deselected free bound) (by simp [hu])

theorem assertCsResume_lands (hR : Running s .assertCs) : Lands .assertCs (assertCsResume s) := by
  obtain ⟨hr, place⟩ := hR
  have bound := hh.bound (by simp [hr])
  obtain ⟨c, k, hc, e⟩ | ⟨hc, -⟩ | ⟨_, hc, _, e⟩ | ⟨hc, hf, e⟩ := assertCsResume_cases s <;>
    simp only [hc] at place
  · obtain ⟨-, -, -, -, -, free⟩ := place
    rw [e]
    exact .of_complete (.of_deselected free bound) (by simp [hr])
  · rw [e]
    exact .of_complete ⟨fun _ => .inl hr, fun _ => bound⟩ (by simp [hr])
  · rw [e]
    exact .of_running (.of_deselected rfl bound) hb
      ⟨hr, isPrimCause_causeOf hf, rfl, rfl, rfl, rfl, rfl⟩

omit hb in
/-- TEARDOWN and DEASSERT_CS complete at the outcome of their release. -/
theorem released_lands {hs : HState} (ht : hs ≠ .transacting) (hr : s.hstate = .ready) {k : Nat}
    (hR : ReleaseInFlight k s) :
    Lands i ({ s.settle.noteRelease s.outcome with hstate := hs }.complete .ok .none 0) :=
  .of_complete (.of_deselected hR.deselected (hh.bound (by simp [hr]))) ht

theorem transactionResume_lands (hi : IsTransaction i) (hR : Running s i) :
    Lands i (s.transactionResume (State.commitOf i) (State.abortOf i)) := by
  obtain ⟨hs, ha, hat⟩ := (running_transaction_iff hi s).mp hR
  have bound := hh.bound (by simp [hs])
  have done {u : State} (free : s.csAsserted = false)
      (hw : ReadWrites i { s.settle.noteRelease s.outcome with hstate := .ready } u)
      {st : Status} {c : Cause} {k : BitVec 8} : Lands i (u.complete st c k) := by
    obtain ⟨_, _, rfl⟩ := hw.frame
    exact .of_complete (.of_deselected free bound) nofun
  obtain ⟨c, k, hp, e⟩ | ⟨hp, e⟩ | ⟨l, hp, ho, e⟩ | ⟨hp, hf, e⟩ :=
    s.transactionResume_cases (State.commitOf i) (State.abortOf i)
  · rw [TransactionAt, hp] at hat
    obtain ⟨-, -, release⟩ := hat
    rw [e]
    exact done release.deselected (readWrites_abortOf i _)
  · rw [TransactionAt, hp] at hat
    rw [e]
    exact done hat.deselected (readWrites_commitOf i _)
  · obtain ⟨t, rfl, -, -, hat', -⟩ := transactionResume_ok_at hi hat hp ho
    have frame : ∃ ca sq env, s.transactionResume (State.commitOf i) (State.abortOf i) =
        { s with csAsserted := ca, sq := sq, env := env } := by
      obtain ⟨-, e⟩ | ⟨-, _, _, _, -, e⟩ := transactionResume_ok hi hat hp ho <;> rw [e] <;>
        exact ⟨_, _, _, rfl⟩
    obtain ⟨ca, sq, env, e⟩ := frame
    rw [e] at hat' ⊢
    exact .of_running ⟨fun _ => .inr hs, fun _ => bound⟩ hb
      ((running_transaction_iff hi _).mpr ⟨hs, addressValid_congr (by rfl) ha, hat'⟩)
  · obtain ⟨hk, -, -⟩ := hat.of_body hp
    rw [e]
    exact .of_running (.of_deselected rfl bound) hb ((running_transaction_iff hi _).mpr
      ⟨hs, addressValid_congr (by rfl) ha, isPrimCause_causeOf hf, hk, toNat_index_add_one hk, rfl,
        rfl, rfl⟩)

/-- A running command goes on to its next place or completes. -/
theorem exec_lands_of_running (hp : s.sq.primPending = true) (hR : Running s i)
    (h : exec i s = .next t) : Lands i t := by
  cases i with
  | init =>
    rw [exec_init_of_pending hp] at h; cases h
    exact initResume_lands hb hR
  | teardown =>
    obtain ⟨hr, -, release⟩ := hR
    rw [exec_teardown, hp] at h; cases h
    exact released_lands hh nofun hr release
  | assertCs =>
    rw [exec_assertCs, hp] at h; cases h
    exact assertCsResume_lands hb hh hR
  | deassertCs =>
    obtain ⟨hr, -, release⟩ := hR
    rw [exec_deassertCs, hp] at h; cases h
    exact released_lands (hs := s.hstate) hh (by simp [hr]) hr release
  | readReg a =>
    rw [exec_transaction_resume (isTransaction_readReg a) hp] at h; cases h
    exact transactionResume_lands hb hh trivial hR
  | writeReg a v =>
    rw [exec_transaction_resume (isTransaction_writeReg a v) hp] at h; cases h
    exact transactionResume_lands hb hh trivial hR
  | _ => exact hR.elim

end

/-! ## A command keeps the invariant -/

/-- A scaling command never runs from one step to the next. -/
theorem Running.not_isScaling {i : Instr} {s : State} (hR : Running s i) : ¬ IsScaling i := by
  cases i with
  | scale | scaleRd | setLsb | setTempOffset => exact hR.elim
  | _ => exact id

/-- A constant or offset is set with its valid bit; the others keep both (R180, R181). -/
theorem ScaleWrite.keeps_unset {f g : ScaleFile} (h : ScaleWrite f g)
    (hl : ∀ c : Category, f.isValid c = false → f.lsb c = 0)
    (ho : f.ofsValid = false → f.tempOffset = 0) :
    (∀ c : Category, g.isValid c = false → g.lsb c = 0) ∧ (g.ofsValid = false → g.tempOffset = 0) := by
  cases h with
  | keep => exact ⟨hl, ho⟩
  | lsb c v =>
    refine ⟨fun d hd => ?_, by simpa using ho⟩
    have code : d.code.toNat < 5 := by cases d <;> decide
    rw [ScaleFile.isValid, ScaleFile.getLsbD_setLsb_lsbValid _ _ _ code, Bool.or_eq_false_iff] at hd
    have other : d ≠ c := by rintro rfl; simp at hd
    rw [ScaleFile.lsb_setLsb, if_neg other]
    exact hl d hd.1
  | offset v => exact ⟨hl, nofun⟩

section
variable {i : Instr} {s t : State} (hd : s.DataInv)
include hd

theorem ScalingEffect.dataInv (e : ScalingEffect i s t) : t.DataInv := by
  obtain ⟨r, f, st, c, ok, writes, -, -, rfl⟩ := e
  obtain ⟨hl, ho⟩ := writes.keeps_unset hd.unsetLsb hd.unsetOffset
  exact ⟨hd.noPartialRead, fun h => by cases ok h; rfl, hl, ho, hd.pinsCanonical⟩

theorem CommandEffect.dataInv (e : CommandEffect i s t) : t.DataInv := by
  have frame := e.frame
  have pins : t.env.pins.wf := by
    rw [e.pins, State.settled_pins]
    split
    · exact PinBank.apply_wf hd.pinsCanonical _ _
    · exact hd.pinsCanonical
  have scale : t.scale = s.scale := by rw [frame]
  have settled : s.settled.rdataValid = false → s.settled.rdata = 0 := by
    simpa using hd.noPartialRead
  refine ⟨?_, ?_, by rw [scale]; exact hd.unsetLsb, by rw [scale]; exact hd.unsetOffset, pins⟩
  · cases e with
    | issues u _ _ _ _ w _ eq | completes u _ _ _ w _ eq =>
      rw [eq]
      exact w.consistent settled
  · cases e with
    | issues u _ _ _ _ w _ eq =>
      obtain ⟨_, _, _, _, _, _, settled⟩ := s.settled_frame
      obtain ⟨_, _, _, _, _, _, _, hu⟩ := w.frame
      rw [eq, hu, settled]
      exact hd.okDetail
    | completes u _ _ _ _ ok eq =>
      rw [eq]
      exact ok

/-- A command that lands keeps the invariant: what it writes of the data is consistent, and the latched
words still name it. -/
theorem inv_of_effect (e : CommandEffect i s t) (hl : SameLatch s t) (hb : s.busy = true)
    (hi : decode s.sq.cmdL s.sq.opndL = .command i) (hr : s.rspValid = false) (lands : Lands i t) :
    t.Inv := by
  have data := e.dataInv hd
  obtain ⟨hc, ho⟩ := hl
  have decoded : decode t.sq.cmdL t.sq.opndL = .command i := by rw [hc, ho]; exact hi
  cases e with
  | issues u p l k ph w _ eq =>
    obtain ⟨_, _, _, _, _, _, settled⟩ := s.settled_frame
    obtain ⟨_, _, _, _, _, _, _, hu⟩ := w.frame
    have busy : t.busy = true := by rw [eq, hu, settled]; exact hb
    have quiet : t.rspValid = false := by rw [eq, hu, settled]; exact hr
    exact inv_of_busy (by rw [eq]; rfl) decoded (lands.running busy) quiet busy lands.handle data
  | completes u _ _ _ _ _ eq =>
    have idle : t.busy = false := by rw [eq]; rfl
    exact inv_of_idle idle (lands.completed idle) (by rw [eq]; exact ⟨rfl, rfl, rfl⟩) lands.handle data

variable (hb : s.busy = true) (hi : decode s.sq.cmdL s.sq.opndL = .command i)
  (hr : s.rspValid = false) (hh : s.HandleInv) (h : exec i s = .next t)
include hb hi hr hh h

theorem exec_inv_of_accepted (hp : s.sq.primPending = false) (ht : s.hstate ≠ .transacting) :
    t.Inv := by
  by_cases hs : IsScaling i
  · have e := exec_scaling_effect hs h
    have data := e.dataInv hd
    obtain ⟨r, f, st, c, -, -, -, -, rfl⟩ := e
    exact inv_of_idle rfl ht ⟨rfl, rfl, rfl⟩ (hh.congr rfl rfl id) data
  · exact inv_of_effect hd (exec_effect hs h) (exec_sameLatch h) hb hi hr
      (exec_lands_of_accepted hb ht hh hp hs h)

theorem exec_inv_of_running (hp : s.sq.primPending = true) (hR : Running s i) : t.Inv := by
  have hs := hR.not_isScaling
  exact inv_of_effect hd (exec_effect hs h) (exec_sameLatch h) hb hi hr
    (exec_lands_of_running hb hh hp hR h)

end

/-! ## A step keeps the invariant -/

/-- Block reset meets the invariant, whatever the pins are known to be (R41). -/
theorem State.holdReset_inv {s : State} (hp : s.env.pins.wf) : s.holdReset.Inv :=
  inv_of_idle rfl nofun ⟨rfl, rfl, rfl⟩ ⟨nofun, fun h => absurd rfl h⟩
    ⟨fun _ => rfl, fun _ => rfl, fun c _ => by cases c <;> rfl, fun _ => rfl,
      State.pinsAfterReset_wf hp⟩

/-- Settles O54: a step holds the block in reset, runs a command from one of its places to the next, or
leaves it idle. -/
theorem stepKeepsInvariant : Obligations.StepKeepsInvariant := by
  intro s t inv h
  have pins : s.takeInput.env.pins = s.env.pins := s.takeInput_env_pins
  have data {u : State} (h1 : u.rdata = s.rdata) (h2 : u.rdataValid = s.rdataValid)
      (h3 : u.status = s.status) (h4 : u.errInfo = s.errInfo) (h5 : u.scale = s.scale)
      (h6 : u.env.pins = s.takeInput.env.pins) : u.DataInv :=
    inv.dataInv.congr h1 h2 h3 h4 h5 (h6.trans pins)
  have handle {u : State} (h1 : u.hstate = s.hstate) (h2 : u.handle = s.handle)
      (h3 : u.csAsserted = s.csAsserted) : u.HandleInv :=
    inv.handleInv.congr h1 h2 (by rw [h3]; exact id)
  obtain ⟨-, rfl⟩ | ⟨-, hb, i, hd, he⟩ | ⟨-, hb, c, hd, -⟩ | ⟨-, hb, -, rfl⟩ |
    ⟨-, hb, cmd, opnd, rest, i, -, hd, he⟩ | ⟨-, hb, cmd, opnd, rest, c, -, hd, rfl⟩ := step_cases h
  · exact State.holdReset_inv (by rw [pins]; exact inv.pinsCanonical)
  · obtain ⟨hp, j, hj, hR⟩ := inv.running hb
    obtain rfl : j = i := by simpa [hj] using hd
    exact exec_inv_of_running (s := s.takeInput.lowerRsp) (data rfl rfl rfl rfl rfl rfl) hb hj rfl
      (handle rfl rfl rfl) he hp hR.takeInput.lowerRsp
  · obtain ⟨-, j, hj, -⟩ := inv.running hb
    simp [hj] at hd
  · obtain ⟨ht, idle⟩ := inv.idle hb
    exact inv_of_idle hb ht idle (handle rfl rfl rfl) (data rfl rfl rfl rfl rfl rfl)
  · obtain ⟨ht, -⟩ := inv.idle hb
    exact exec_inv_of_accepted (s := s.takeInput.accept cmd opnd rest)
      (data rfl rfl rfl rfl rfl rfl) rfl hd rfl (handle rfl rfl rfl) he rfl ht
  · obtain ⟨ht, -⟩ := inv.idle hb
    have accepted : (s.takeInput.accept cmd opnd rest).DataInv := data rfl rfl rfl rfl rfl rfl
    exact inv_of_idle rfl ht ⟨rfl, rfl, rfl⟩ (handle rfl rfl rfl)
      ⟨accepted.noPartialRead, nofun, accepted.unsetLsb, accepted.unsetOffset, accepted.pinsCanonical⟩

end Sys2Proof.Machine

/-! SUPPORT. What a command does about chip-select, said once, and what follows for the line, the window and
CS_FAULT (O16, O55, O59, O60). -/

namespace Sys2Proof.Machine

/-! ## What a command does about chip-select -/

/-- What running a command on a bound handle does about chip-select. -/
inductive ChipSelectEffect (i : Instr) (s t : State) : Prop
  /-- With nothing in flight it completes with no primitive. -/
  | completes (idle : s.sq.primPending = false) (done : t.busy = false)
      (trace : t.env.trace = s.env.trace) (cs : t.csAsserted = s.csAsserted)
      (fault : t.csFault = s.csFault)
      (hstate : t.hstate = s.hstate ∨ s.hstate = .ready ∧ t.hstate = .closed)
  /-- It issues the assert, its primitive 0. -/
  | asserts (idle : s.sq.primPending = false) (free : s.csAsserted = false)
      (kind : IsTransaction i ∨ i = .assertCs) (runs : t.busy = true)
      (trace : t.env.trace = s.env.trace ++ [setl s.handle.pinCs .low]) (cs : t.csAsserted = false)
      (fault : t.csFault = s.csFault) (index : t.sq.pidx = 0)
  /-- ASSERT_CS completes at the OK of its assert. -/
  | asserted (flight : s.sq.primPending = true) (body : s.sq.phase = .body)
      (request : s.sq.preq = setl s.handle.pinCs .low) (ok : s.outcome.failed = false)
      (done : t.busy = false) (trace : t.env.trace = s.env.trace) (cs : t.csAsserted = true)
      (fault : t.csFault = s.csFault)
  /-- A transaction goes on, in its window, with a primitive on the other bus pins. -/
  | goesOn (flight : s.sq.primPending = true) (body : s.sq.phase = .body)
      (transacting : s.hstate = .transacting) (ok : s.outcome.failed = false)
      (request : s.sq.preq = setl s.handle.pinCs .low ∨
        s.csAsserted = true ∧ BodyRequest s.handle s.sq.preq)
      (runs : t.busy = true) (p : Request) (next : BodyRequest s.handle p)
      (trace : t.env.trace = s.env.trace ++ [p]) (cs : t.csAsserted = true)
      (fault : t.csFault = s.csFault)
  /-- It issues the release, at its acceptance or after a primitive that was none. -/
  | releases (body : s.sq.primPending = true →
        s.sq.phase = .body ∧ s.sq.preq ≠ setl s.handle.pinCs .high)
      (bound : t.hstate ≠ .uninitialized) (runs : t.busy = true)
      (trace : t.env.trace = s.env.trace ++ [setl s.handle.pinCs .high]) (cs : t.csAsserted = false)
      (fault : t.csFault = s.csFault)
  /-- It completes at the outcome of the release, with the status that was settled before (R134). -/
  | released (flight : s.sq.primPending = true) (request : s.sq.preq = setl s.handle.pinCs .high)
      (done : t.busy = false) (trace : t.env.trace = s.env.trace) (cs : t.csAsserted = false)
      (fault : t.csFault = (s.csFault || s.outcome.failed))
      (status : s.sq.phase = .release ∧ t.status = .ok ∨
        ∃ c k, s.sq.phase = .cleanup c k ∧ t.status = .busError ∧ t.errInfo = k ++ c.code)

/-- The primitives of a transaction's body are on PIN_SCLK, PIN_DOUT and PIN_DIN, so on none of the other
pins of a bound handle. -/
theorem BodyRequest.pin_ne {h : HandleConfig} {p : Request} (hp : BodyRequest h p)
    (hb : HandleBound h) :
    p.pin ≠ h.pinCs ∧ p.pin ≠ h.pinDr ∧ p.pin ≠ h.pinRst ∧
      (p.op = .setPinLevel ∨ p.op = .readPinLevel) := by
  have distinct := hb.distinct
  simp only [List.nodup_cons, List.mem_cons, not_or, List.not_mem_nil, or_false] at distinct
  cases hp <;> simp [setl, getl] <;> grind

theorem setl_low_ne_high (p : PinId) : setl p .low ≠ setl p .high := by simp [setl]

/-- A completion with nothing in flight that writes no field of the handle but HSTATE. -/
theorem ChipSelectEffect.of_complete {i : Instr} {s u : State} {st : Status} {c : Cause}
    {k : BitVec 8} (hp : s.sq.primPending = false)
    (hu : ∃ hs r v x f, u = { s with hstate := hs, rdata := r, rdataValid := v, result := x, scale := f })
    (hs : u.hstate = s.hstate ∨ s.hstate = .ready ∧ u.hstate = .closed) :
    ChipSelectEffect i s (u.complete st c k) := by
  obtain ⟨_, _, _, _, _, rfl⟩ := hu
  exact .completes hp rfl rfl rfl rfl hs

theorem ChipSelectEffect.of_failsCheck {i : Instr} {s t : State} (hp : s.sq.primPending = false)
    (h : FailsCheck s t) : ChipSelectEffect i s t := by
  obtain ⟨st, c, -, rfl⟩ := h
  exact .of_complete hp ⟨_, _, _, _, _, rfl⟩ (.inl rfl)

section
variable {i : Instr} {s t : State} (hb : s.busy = true) (ht : s.hstate ≠ .transacting)
  (hp : s.sq.primPending = false)
include hb ht hp

omit ht in
/-- READ_REG and WRITE_REG fail a check or issue the assert. -/
theorem transactionBegin_chipSelect (hi : IsTransaction i) (h : exec i s = .next t) :
    ChipSelectEffect i s t := by
  obtain ⟨u, e, st, c, -, rfl⟩ | ⟨-, -, -, free, e⟩ := exec_transaction_begin hi hp
  · cases e.symm.trans h
    obtain ⟨_, _, frame⟩ := (readWrites_abortOf i s).frame
    rw [frame]
    exact .of_complete hp ⟨_, _, _, _, _, rfl⟩ (.inl rfl)
  · rw [startTransaction_eq hi] at e
    cases e.symm.trans h
    exact .asserts hp free (.inl hi) hb rfl free rfl rfl

/-- A command at its acceptance, on a handle INIT does not bind anew. -/
theorem exec_chipSelect_of_accepted (hi : IsInit i → s.hstate ≠ .uninitialized)
    (h : exec i s = .next t) : ChipSelectEffect i s t := by
  have release (hu : s.hstate ≠ .uninitialized) :
      ChipSelectEffect i s (s.issueRelease 0 .release) :=
    .releases (by simp [hp]) hu hb rfl rfl rfl
  cases i with
  | init budget cs dr rst dout din sclk clksel =>
    have bound := hi (isInit_init ..)
    rw [exec_init_of_idle hp] at h; cases h
    obtain f | ⟨hc, hr, -, -⟩ := initBegin_cases ⟨cs, dr, rst, dout, din, sclk, clksel, budget⟩ s
    · exact .of_failsCheck hp f
    · exact absurd (HState.eq_ready hc bound ht) hr
  | teardown =>
    rw [exec_teardown, hp] at h; cases h
    obtain f | ⟨-, hu, -, e⟩ | ⟨hc, hu, -, e⟩ := teardownBegin_cases s
    · exact .of_failsCheck hp f
    · exact e ▸ release hu
    · exact e ▸ .of_complete hp ⟨_, _, _, _, _, rfl⟩ (.inr ⟨HState.eq_ready hc hu ht, rfl⟩)
  | assertCs =>
    rw [exec_assertCs, hp] at h; cases h
    obtain f | ⟨-, -, free, e⟩ := assertCsBegin_cases s
    · exact .of_failsCheck hp f
    · exact e ▸ .asserts hp free (.inr rfl) hb rfl free rfl rfl
  | deassertCs =>
    rw [exec_deassertCs, hp] at h; cases h
    obtain ⟨-, e⟩ | ⟨hr, e⟩ := deassertCsBegin_cases s
    · exact e ▸ .of_complete hp ⟨_, _, _, _, _, rfl⟩ (.inl rfl)
    · exact e ▸ release (by simp [hr])
  | readReg a => exact transactionBegin_chipSelect hb hp trivial h
  | writeReg a v => exact transactionBegin_chipSelect hb hp trivial h
  | scale | scaleRd | setLsb | setTempOffset =>
    obtain ⟨r, f, st, c, -, -, -, -, rfl⟩ := exec_scaling_effect (by trivial) h
    exact .of_complete hp ⟨_, _, _, _, _, rfl⟩ (.inl rfl)

end

section
variable {i : Instr} {s t : State} (hb : s.busy = true) (hh : s.HandleInv)
  (hp : s.sq.primPending = true)
include hp

/-- A completion at the outcome of the release. -/
theorem ChipSelectEffect.of_released {n : Nat} (hR : ReleaseInFlight n s) {u : State} {st : Status}
    {c : Cause} {k : BitVec 8}
    (hu : ∃ hs r v, u =
      { s.settle.noteRelease s.outcome with hstate := hs, rdata := r, rdataValid := v })
    (status : s.sq.phase = .release ∧ st = .ok ∨ s.sq.phase = .cleanup c k ∧ st = .busError) :
    ChipSelectEffect i s (u.complete st c k) := by
  obtain ⟨_, _, _, rfl⟩ := hu
  refine .released hp hR.request rfl s.env.consume_trace hR.deselected rfl ?_
  obtain ⟨hr, rfl⟩ | ⟨hr, rfl⟩ := status
  · exact .inl ⟨hr, rfl⟩
  · exact .inr ⟨c, k, hr, rfl, rfl⟩

include hb

omit hp in
/-- The release issued after a primitive that was none. -/
theorem ChipSelectEffect.of_issueRelease {u : State} {k : BitVec 8} {ph : SeqPhase}
    (body : s.sq.phase = .body) (request : s.sq.preq ≠ setl s.handle.pinCs .high)
    (bound : s.hstate ≠ .uninitialized)
    (hu : ∃ sh ca, u = { s.settle with csAsserted := ca, sq := { s.settle.sq with shift := sh } }) :
    ChipSelectEffect i s (u.issueRelease k ph) := by
  obtain ⟨_, _, rfl⟩ := hu
  exact .releases (fun _ => ⟨body, request⟩) bound hb (congrArg (· ++ _) s.env.consume_trace) rfl rfl

theorem assertCsResume_chipSelect (hR : Running s .assertCs) :
    ChipSelectEffect i s (assertCsResume s) := by
  obtain ⟨hr, place⟩ := hR
  obtain ⟨c, k, hc, e⟩ | ⟨hc, -⟩ | ⟨_, hc, ho, e⟩ | ⟨hc, -, e⟩ := assertCsResume_cases s <;>
    simp only [hc] at place
  · obtain ⟨-, -, release⟩ := place
    exact e ▸ .of_released hp release ⟨_, _, _, rfl⟩ (.inr ⟨hc, rfl⟩)
  · obtain ⟨-, request, -, -⟩ := place
    exact e ▸ .asserted hp hc request (by rw [ho]; rfl) rfl s.env.consume_trace rfl rfl
  · obtain ⟨-, request, -, -⟩ := place
    rw [e]
    exact .of_issueRelease hb hc (request ▸ setl_low_ne_high _) (by simp [hr]) ⟨_, _, rfl⟩

include hh

theorem transactionResume_chipSelect (hi : IsTransaction i) (hR : Running s i) :
    ChipSelectEffect i s (s.transactionResume (State.commitOf i) (State.abortOf i)) := by
  obtain ⟨hs, -, hat⟩ := (running_transaction_iff hi s).mp hR
  have known : s.hstate ≠ .uninitialized := by simp [hs]
  have bound := hh.bound known
  have flight (hc : s.sq.phase = .body) :
      s.sq.preq = setl s.handle.pinCs .low ∨ s.csAsserted = true ∧ BodyRequest s.handle s.sq.preq := by
    obtain ⟨hk, seq, cs⟩ := hat.of_body hc
    obtain ⟨-, first⟩ | ⟨later, body⟩ := request_of_at hi hk seq
    · exact .inl first
    · exact .inr ⟨by rw [cs]; exact decide_eq_true later, body⟩
  have no_release (hc : s.sq.phase = .body) : s.sq.preq ≠ setl s.handle.pinCs .high := by
    obtain first | ⟨-, body⟩ := flight hc
    · exact first ▸ setl_low_ne_high _
    · intro e
      exact (body.pin_ne bound).1 (by rw [e]; rfl)
  obtain ⟨c, k, hc, e⟩ | ⟨hc, e⟩ | ⟨l, hc, ho, -⟩ | ⟨hc, -, e⟩ :=
    s.transactionResume_cases (State.commitOf i) (State.abortOf i)
  · rw [TransactionAt, hc] at hat
    obtain ⟨-, -, release⟩ := hat
    obtain ⟨_, _, frame⟩ := (readWrites_abortOf i
      { s.settle.noteRelease s.outcome with hstate := .ready }).frame
    rw [e, frame]
    exact .of_released hp release ⟨_, _, _, rfl⟩ (.inr ⟨hc, rfl⟩)
  · rw [TransactionAt, hc] at hat
    obtain ⟨_, _, frame⟩ := (readWrites_commitOf i
      { s.settle.noteRelease s.outcome with hstate := .ready }).frame
    rw [e, frame]
    exact .of_released hp hat ⟨_, _, _, rfl⟩ (.inl ⟨hc, rfl⟩)
  · obtain ⟨hk, seq, cs⟩ := hat.of_body hc
    obtain ⟨-, e⟩ | ⟨more, q, r, rest, left, e⟩ := transactionResume_ok hi hat hc ho <;> rw [e]
    · exact .of_issueRelease hb hc (no_release hc) known ⟨_, _, rfl⟩
    · have next : BodyRequest s.handle q := by
        have at_next := (left_of_at seq).symm.trans left
        obtain ⟨h0, -⟩ | ⟨-, body⟩ := request_of_at hi (by omega) at_next.symm
        · omega
        · exact body
      exact .goesOn hp hc hs (by rw [ho]; rfl) (flight hc) hb q next
        (congrArg (· ++ _) s.env.consume_trace) (absorb_csAsserted_of_at cs l) rfl
  · rw [e]
    exact .of_issueRelease hb hc (no_release hc) known ⟨_, _, rfl⟩

/-- A running command other than INIT, when its primitive in flight has its outcome. -/
theorem exec_chipSelect_of_running (hi : ¬ IsInit i) (hR : Running s i) (h : exec i s = .next t) :
    ChipSelectEffect i s t := by
  cases i with
  | init => exact absurd (isInit_init ..) hi
  | teardown =>
    obtain ⟨-, hc, release⟩ := hR
    rw [exec_teardown, hp] at h; cases h
    exact .of_released hp release ⟨_, _, _, rfl⟩ (.inl ⟨hc, rfl⟩)
  | assertCs =>
    rw [exec_assertCs, hp] at h; cases h
    exact assertCsResume_chipSelect hb hp hR
  | deassertCs =>
    obtain ⟨-, hc, release⟩ := hR
    rw [exec_deassertCs, hp] at h; cases h
    exact .of_released hp release ⟨_, _, _, rfl⟩ (.inl ⟨hc, rfl⟩)
  | readReg a =>
    rw [exec_transaction_resume (isTransaction_readReg a) hp] at h; cases h
    exact transactionResume_chipSelect hb hh hp trivial hR
  | writeReg a v =>
    rw [exec_transaction_resume (isTransaction_writeReg a v) hp] at h; cases h
    exact transactionResume_chipSelect hb hh hp trivial hR
  | _ => exact hR.elim

end

/-! ## What a step does about chip-select -/

/-- The effect depends on the first state only through what the input events and the acceptance keep. -/
theorem ChipSelectEffect.congr {i : Instr} {s s' t : State} (e : ChipSelectEffect i s' t)
    (h1 : s'.hstate = s.hstate) (h2 : s'.csAsserted = s.csAsserted) (h3 : s'.csFault = s.csFault)
    (h4 : s'.handle = s.handle) (h5 : s'.sq.primPending = s.sq.primPending)
    (h6 : s'.sq.phase = s.sq.phase) (h7 : s'.sq.preq = s.sq.preq)
    (h8 : s'.env.trace = s.env.trace) (h9 : s'.outcome = s.outcome) : ChipSelectEffect i s t := by
  cases e with
  | completes idle done trace cs fault hstate =>
    exact .completes (h5 ▸ idle) done (h8 ▸ trace) (h2 ▸ cs) (h3 ▸ fault) (h1 ▸ hstate)
  | asserts idle free kind runs trace cs fault index =>
    exact .asserts (h5 ▸ idle) (h2 ▸ free) kind runs (h8 ▸ h4 ▸ trace) cs (h3 ▸ fault) index
  | asserted flight body request ok done trace cs fault =>
    exact .asserted (h5 ▸ flight) (h6 ▸ body) (h7 ▸ h4 ▸ request) (h9 ▸ ok) done (h8 ▸ trace) cs
      (h3 ▸ fault)
  | goesOn flight body transacting ok request runs p next trace cs fault =>
    exact .goesOn (h5 ▸ flight) (h6 ▸ body) (h1 ▸ transacting) (h9 ▸ ok)
      (h7 ▸ h4 ▸ h2 ▸ request) runs p (h4 ▸ next) (h8 ▸ trace) cs (h3 ▸ fault)
  | releases body bound runs trace cs fault =>
    exact .releases (h5 ▸ h6 ▸ h7 ▸ h4 ▸ body) bound runs (h8 ▸ h4 ▸ trace) cs (h3 ▸ fault)
  | released flight request done trace cs fault status =>
    exact .released (h5 ▸ flight) (h7 ▸ h4 ▸ request) done (h8 ▸ trace) cs (h3 ▸ h9 ▸ fault)
      (h6 ▸ status)

/-- A step that runs an INIT which may bind the handle. -/
inductive RunsInit (s t : State) : Prop
  | accepted (unbound : s.hstate = .uninitialized) (idle : s.busy = false) (i : Instr) (cmd : CmdWord)
      (opnd : OpndWord) (rest : List (CmdWord × OpndWord)) (init : IsInit i)
      (run : exec i (s.takeInput.accept cmd opnd rest) = .next t)
  | resumed (busy : s.busy = true) (i : Instr) (init : IsInit i) (place : Running s i)
      (run : exec i s.takeInput.lowerRsp = .next t)

/-- What a step that binds no handle does about chip-select: the effect of the command it runs, named by
the latched words while it runs. -/
structure StepChipSelect (s t : State) : Prop where
  effect : ∃ i, ChipSelectEffect i s t ∧ (t.busy = true → decode t.sq.cmdL t.sq.opndL = .command i)
  handle : t.handle = s.handle
  pins : t.env.pins = if s.busy then s.env.pins.apply s.sq.preq s.outcome else s.env.pins

/-- A primitive is in flight exactly while a command runs (R35). -/
theorem State.Inv.primPending_eq {s : State} (inv : s.Inv) : s.sq.primPending = s.busy := by
  cases hb : s.busy with
  | true => exact (inv.running hb).1
  | false =>
    obtain ⟨-, -, hp, -⟩ := inv.idle hb
    exact hp

theorem State.outcome_accept (s : State) (cmd : CmdWord) (opnd : OpndWord)
    (rest : List (CmdWord × OpndWord)) : (s.accept cmd opnd rest).outcome = s.outcome := rfl

/-- A bus or life-cycle command changes the pins by the primitive in flight. -/
theorem exec_pins {i : Instr} {s t : State} (h : exec i s = .next t)
    (hs : IsScaling i → s.sq.primPending = false) :
    t.env.pins = if s.sq.primPending then s.env.pins.apply s.sq.preq s.outcome else s.env.pins := by
  by_cases hi : IsScaling i
  · obtain ⟨r, f, st, c, -, -, -, -, rfl⟩ := exec_scaling_effect hi h
    rw [hs hi]
    rfl
  · rw [← s.settled_pins]
    exact (exec_effect hi h).pins

/-- Only INIT at its acceptance writes the handle configuration (R31). -/
theorem exec_handle {i : Instr} {s t : State} (h : exec i s = .next t)
    (hi : IsInit i → s.sq.primPending = false ∧ s.hstate ≠ .uninitialized ∧
      s.hstate ≠ .transacting) : t.handle = s.handle := by
  by_cases hn : IsInit i
  · obtain ⟨hp, hu, ht⟩ := hi hn
    obtain ⟨budget, cs, dr, rst, dout, din, sclk, clksel, rfl⟩ := hn
    rw [exec_init_of_idle hp] at h; cases h
    obtain ⟨st, c, -, e⟩ | ⟨hc, hr, -, -⟩ :=
      initBegin_cases ⟨cs, dr, rst, dout, din, sclk, clksel, budget⟩ s
    · rw [e]; rfl
    · exact absurd (HState.eq_ready hc hu ht) hr
  · by_cases hs : IsScaling i
    · obtain ⟨r, f, st, c, -, -, -, -, rfl⟩ := exec_scaling_effect hs h
      rfl
    · exact (exec_effect hs h).handle_unchanged hn

/-- A step out of reset runs an INIT that may bind the handle, or has an effect on the chip-select of the
handle as it is. -/
theorem step_chipSelect {s t : State} (inv : s.Inv) (hn : s.takeInput.env.rstN = true)
    (h : step s = .next t) : RunsInit s t ∨ StepChipSelect s t := by
  have pending := inv.primPending_eq
  have pins : s.takeInput.env.pins = s.env.pins := s.takeInput_env_pins
  have trace : s.takeInput.env.trace = s.env.trace := s.takeInput_env_trace
  have outcome : s.takeInput.outcome = s.outcome := s.outcome_takeInput
  obtain ⟨hr, -⟩ | ⟨-, hb, i, hd, he⟩ | ⟨-, hb, c, hd, -⟩ | ⟨-, hb, -, rfl⟩ |
    ⟨-, hb, cmd, opnd, rest, i, -, hd, he⟩ | ⟨-, hb, cmd, opnd, rest, c, -, hd, rfl⟩ := step_cases h
  · simp [hn] at hr
  · obtain ⟨hp, j, hj, hR⟩ := inv.running hb
    obtain rfl : j = i := by simpa [hj] using hd
    by_cases hi : IsInit j
    · exact .inl (.resumed hb j hi hR he)
    · obtain ⟨hc, ho⟩ := exec_sameLatch he
      have e := exec_chipSelect_of_running (s := s.takeInput.lowerRsp) hb
        (inv.handleInv.congr rfl rfl id) hp hi hR.takeInput.lowerRsp he
      refine .inr ⟨⟨j, e.congr rfl rfl rfl rfl rfl rfl rfl trace outcome, fun _ => ?_⟩, ?_, ?_⟩
      · rw [hc, ho]; exact hj
      · exact exec_handle (s := s.takeInput.lowerRsp) he fun h => absurd h hi
      · have := exec_pins (s := s.takeInput.lowerRsp) he fun h => absurd h hR.not_isScaling
        rw [this, ← pending, ← pins, ← outcome]
        rfl
  · obtain ⟨-, j, hj, -⟩ := inv.running hb
    simp [hj] at hd
  · rw [hb] at pending
    refine .inr ⟨⟨.teardown, .completes pending hb trace rfl rfl (.inl rfl), ?_⟩, rfl, ?_⟩
    · exact fun h => absurd (hb.symm.trans h) nofun
    · rw [hb]; exact pins
  · obtain ⟨ht, -⟩ := inv.idle hb
    rw [hb] at pending
    by_cases hi : IsInit i ∧ s.hstate = .uninitialized
    · exact .inl (.accepted hi.2 hb i cmd opnd rest hi.1 he)
    · obtain ⟨hc, ho⟩ := exec_sameLatch he
      have bound (h : IsInit i) : s.hstate ≠ .uninitialized := fun hu => hi ⟨h, hu⟩
      have e := exec_chipSelect_of_accepted (s := s.takeInput.accept cmd opnd rest) rfl ht rfl bound he
      refine .inr ⟨⟨i, e.congr rfl rfl rfl rfl pending.symm rfl rfl trace outcome, fun _ => ?_⟩, ?_, ?_⟩
      · rw [hc, ho]; exact hd
      · exact exec_handle (s := s.takeInput.accept cmd opnd rest) he fun h => ⟨rfl, bound h, ht⟩
      · have := exec_pins (s := s.takeInput.accept cmd opnd rest) he fun _ => rfl
        rw [this, hb]
        exact pins
  · rw [hb] at pending
    refine .inr ⟨⟨.teardown, .completes pending rfl trace rfl rfl (.inl rfl), nofun⟩, rfl, ?_⟩
    rw [hb]; exact pins

end Sys2Proof.Machine

/-! SUPPORT. The chip-select line, the window, CS_FAULT, and what only block reset undoes (O16, O55, O59,
O60). -/

namespace Sys2Proof.Machine

/-! ## CS_FAULT -/

/-- Settles O60: by the effect on chip-select, a step takes the outcome of a release, or of a primitive
that is none. -/
theorem csFaultOnlyFromFailedRelease : Obligations.CsFaultOnlyFromFailedRelease := by
  intro s t inv hn h
  have pending := inv.primPending_eq
  obtain init | ⟨⟨i, e, -⟩, -, -⟩ := step_chipSelect inv hn h
  · cases init with
    | accepted unbound idle i cmd opnd rest init run =>
      refine ⟨?_, by simp [idle], by simp [idle]⟩
      rw [exec_init_csFault init run, idle]
      rfl
    | resumed busy i init place run =>
      have body : s.sq.phase = .body := by
        obtain ⟨_, _, _, _, _, _, _, _, rfl⟩ := init
        obtain ⟨-, -, hp, -⟩ := place
        exact hp
      refine ⟨?_, by simp [body], by simp [body]⟩
      have fault := exec_init_csFault init run
      rw [State.outcome_lowerRsp, State.outcome_takeInput, State.lowerRsp_sq_primPending,
        State.takeInput_sq_primPending, pending] at fault
      exact fault
  · rw [← pending]
    cases e with
    | completes idle done trace cs fault hstate => simp [idle, fault]
    | asserts idle free kind runs trace cs fault index => simp [idle, fault]
    | asserted flight body request ok done trace cs fault => simp [body, ok, fault]
    | goesOn flight body tr ok request runs p next trace cs fault => simp [body, ok, fault]
    | releases body bound runs trace cs fault =>
      cases hp : s.sq.primPending with
      | false => simp [fault]
      | true =>
        obtain ⟨hb, request⟩ := body hp
        simp [hb, decide_eq_false request, fault]
    | released flight request done trace cs fault status =>
      refine ⟨by simp [fault, flight, request], fun _ hr => ⟨done, ?_⟩, fun c k _ hc => ⟨done, ?_⟩⟩
      · obtain ⟨-, ok⟩ | ⟨c, k, hc, -⟩ := status
        · exact ok
        · simp [hr] at hc
      · obtain ⟨hr, -⟩ | ⟨c', k', hc', failed⟩ := status
        · simp [hc] at hr
        · cases hc.symm.trans hc'
          exact failed

/-! ## The window -/

/-- PIN_CS of a bound handle is neither PIN_DR nor PIN_RST. -/
theorem HandleBound.cs_ne {h : HandleConfig} (hb : HandleBound h) :
    h.pinCs ≠ h.pinDr ∧ h.pinCs ≠ h.pinRst := by
  have distinct := hb.distinct
  simp only [List.nodup_cons, List.mem_cons, not_or] at distinct
  tauto

/-- Settles O59: by the effect on chip-select, a primitive issued on a bound handle is the assert, the
release or one of a transaction's body. -/
theorem chipSelectWindow : Obligations.ChipSelectWindow := by
  intro s t p inv hn hu h issued
  have bound := inv.bound hu
  obtain ⟨cs_dr, cs_rst⟩ := bound.cs_ne
  obtain init | ⟨⟨i, e, named⟩, -, -⟩ := step_chipSelect inv hn h
  · cases init with
    | accepted unbound => exact absurd unbound hu
    | resumed busy i init place run =>
      obtain ⟨_, _, _, _, _, _, _, _, rfl⟩ := init
      obtain ⟨unbound, -⟩ := place
      exact absurd unbound hu
  · cases e with
    | completes idle done trace cs fault hstate => simp [trace] at issued
    | asserts idle free kind runs trace cs fault index =>
      obtain rfl : setl s.handle.pinCs .low = p := by simpa [trace] using issued
      refine ⟨cs_dr, cs_rst, .inl rfl, fun _ => ⟨free, index, i, named runs, kind⟩,
        fun e => absurd e (setl_low_ne_high _), fun _ held => ?_⟩
      exact absurd (held.symm.trans free) nofun
    | asserted flight body request ok done trace cs fault => simp [trace] at issued
    | goesOn flight body tr ok request runs q next trace cs fault =>
      obtain rfl : q = p := by simpa [trace] using issued
      obtain ⟨ne_cs, ne_dr, ne_rst, level⟩ := next.pin_ne bound
      exact ⟨ne_dr, ne_rst, level, fun e => absurd (congrArg Request.pin e) ne_cs,
        fun e => absurd (congrArg Request.pin e) ne_cs, fun ready => absurd (ready.symm.trans tr) nofun⟩
    | releases body known runs trace cs fault =>
      obtain rfl : setl s.handle.pinCs .high = p := by simpa [trace] using issued
      exact ⟨cs_dr, cs_rst, .inl rfl, fun e => absurd e.symm (setl_low_ne_high _), fun _ => cs,
        fun _ _ => rfl⟩
    | released flight request done trace cs fault status => simp [trace] at issued

/-! ## What only reset undoes -/

/-- A command sets valid bits and clears none (R30). -/
theorem ScaleWrite.keeps_valid {f g : ScaleFile} (h : ScaleWrite f g) :
    (∀ n, f.lsbValid.getLsbD n = true → g.lsbValid.getLsbD n = true) ∧
      (f.ofsValid = true → g.ofsValid = true) := by
  cases h with
  | keep => exact ⟨fun _ => id, id⟩
  | lsb c v =>
    refine ⟨fun n hn => ?_, by simp⟩
    rw [ScaleFile.setLsb_lsbValid, BitVec.getLsbD_or, hn, Bool.true_or]
  | offset v => exact ⟨fun _ => id, fun _ => rfl⟩

/-- What a command makes of the scale file. -/
theorem exec_scaleWrite {i : Instr} {s t : State} (h : exec i s = .next t) :
    ScaleWrite s.scale t.scale := by
  by_cases hi : IsScaling i
  · obtain ⟨r, f, st, c, -, writes, -, -, rfl⟩ := exec_scaling_effect hi h
    exact writes
  · rw [(exec_effect hi h).frame]
    exact .keep

/-- Out of reset a step makes of the scale file what a command does, or nothing. -/
theorem step_scaleWrite {s t : State} (hn : s.takeInput.env.rstN = true) (h : step s = .next t) :
    ScaleWrite s.scale t.scale := by
  obtain ⟨hr, -⟩ | ⟨-, -, i, -, he⟩ | ⟨-, -, c, -, rfl⟩ | ⟨-, -, -, rfl⟩ |
    ⟨-, -, cmd, opnd, rest, i, -, -, he⟩ | ⟨-, -, cmd, opnd, rest, c, -, -, rfl⟩ := step_cases h
  · simp [hn] at hr
  · exact exec_scaleWrite (s := s.takeInput.lowerRsp) he
  · exact .keep
  · exact .keep
  · exact exec_scaleWrite (s := s.takeInput.accept cmd opnd rest) he
  · exact .keep

/-- Settles O16: no move of HSTATE starts in CLOSED (O56), CS_FAULT only rises (O60), and no command
clears a valid bit. -/
theorem onlyResetLeavesClosed : Obligations.OnlyResetLeavesClosed := by
  intro s t inv hn h
  obtain ⟨fault, -⟩ := csFaultOnlyFromFailedRelease s t inv hn h
  refine ⟨fun hc => ?_, fun hf => by rw [fault, hf, Bool.true_or], (step_scaleWrite hn h).keeps_valid⟩
  obtain ⟨i, -, e⟩ | ⟨-, same, -⟩ := step_handleEffect inv hn h
  · cases e with
    | keeps same => exact same.trans hc
    | binds before | starts before | ends before | closes before => simp [hc] at before
  · exact same.trans hc

/-! ## The line -/

/-- A command runs with CS_ASSERTED = 0: nothing is known of the line but from INIT's primitive 2 on. -/
theorem lineInv_of_issued {t : State} (runs : t.busy = true) (cs : t.csAsserted = false)
    (configured : t.hstate = .uninitialized → 2 ≤ t.sq.pidx.toNat →
      t.env.pins.level t.handle.pinCs = some .high) : t.LineInv where
  selected h := by simp [cs] at h
  deselected h := by simp [runs] at h
  configured _ := configured

/-- Between commands the line follows CS_ASSERTED. -/
theorem lineInv_of_idle {t : State} (done : t.busy = false)
    (selected : t.csAsserted = true → t.env.pins.level t.handle.pinCs = some .low)
    (deselected : t.hstate = .ready ∨ t.hstate = .closed → t.csAsserted = false → t.csFault = false →
      t.env.pins.level t.handle.pinCs = some .high) : t.LineInv where
  selected := selected
  deselected _ := deselected
  configured h := by simp [done] at h

/-- INIT's primitives from 2 on leave the level of PIN_CS, which primitive 1 has driven HIGH (R200). -/
theorem initSequence_pinCs {h : HandleConfig} (hb : HandleBound h) {p : Request} {l : List Request}
    {k : Nat} (hk : k < 10) (seq : p :: l = (initSequence h).drop k) :
    (k = 1 → p = setl h.pinCs .high) ∧ (2 ≤ k → p.op = .setPinLevel → h.pinCs ≠ p.pin) ∧
      (l = [] → k = 9) := by
  have distinct := hb.distinct
  simp only [List.nodup_cons, List.mem_cons, not_or] at distinct
  interval_cases k <;> cases seq <;> simp [setl, setm] <;> tauto

/-- A step that runs an INIT which may bind the handle keeps the line. -/
theorem RunsInit.lineInv {s t : State} (inv : s.Inv) (line : s.LineInv) (h : RunsInit s t) :
    t.LineInv := by
  cases h with
  | accepted unbound idle i cmd opnd rest init run =>
    have free : s.csAsserted = false := by
      by_contra hc
      have := inv.held (by simpa using hc)
      simp [unbound] at this
    obtain ⟨budget, cs, dr, rst, dout, din, sclk, clksel, rfl⟩ := init
    rw [exec_init_of_idle rfl] at run; cases run
    obtain ⟨st, c, -, e⟩ | ⟨-, -, -, e⟩ :=
      initBegin_cases ⟨cs, dr, rst, dout, din, sclk, clksel, budget⟩ (s.takeInput.accept cmd opnd rest) <;>
      rw [e]
    · exact lineInv_of_idle rfl (fun h => absurd (free.symm.trans h) nofun)
        (fun h => by simp [unbound] at h)
    · exact lineInv_of_issued rfl free nofun
  | resumed busy i init place run =>
    obtain ⟨budget, cs, dr, rst, dout, din, sclk, clksel, rfl⟩ := init
    obtain ⟨unbound, free, -, -, bound, hk, seq⟩ := place
    obtain ⟨hp, -⟩ := inv.running busy
    obtain ⟨first, later, last⟩ := initSequence_pinCs bound hk seq
    have pins : s.takeInput.lowerRsp.env.pins = s.env.pins := s.takeInput_env_pins
    have high {l : Level} (ok : s.takeInput.lowerRsp.outcome = .ok l) (h : 1 ≤ s.sq.pidx.toNat) :
        s.takeInput.lowerRsp.settle.env.pins.level s.handle.pinCs = some .high := by
      rw [State.settle_env_pins, pins, ok, State.lowerRsp_sq_preq, State.takeInput_sq_preq]
      obtain one | more : s.sq.pidx.toNat = 1 ∨ 2 ≤ s.sq.pidx.toNat := by omega
      · rw [first one]
        exact PinBank.apply_setl_ok _ _ _ rfl
      · rw [PinBank.apply_level_other _ _ _ _ (later more)]
        exact line.configured busy unbound more
    rw [exec_init_of_pending (s := s.takeInput.lowerRsp) hp] at run; cases run
    obtain ⟨l, ho, left, e⟩ | ⟨l, p, rest, ho, -, e⟩ | ⟨-, e⟩ := initResume_cases s.takeInput.lowerRsp <;>
      rw [e]
    · have nine := last left
      exact lineInv_of_idle rfl (fun h => absurd (free.symm.trans h) nofun)
        fun _ _ _ => high ho (by omega)
    · refine lineInv_of_issued busy free fun _ two => high ho ?_
      have index : (s.sq.pidx + 1).toNat = s.sq.pidx.toNat + 1 := toNat_index_add_one (by omega)
      change 2 ≤ (s.sq.pidx + 1).toNat at two
      omega
    · exact lineInv_of_idle rfl (fun h => absurd (free.symm.trans h) nofun)
        (fun h => by simp [unbound] at h)

/-- Settles O55: the assert drives the line LOW when CS_ASSERTED rises, a release drives it HIGH or sets
CS_FAULT, and the primitives in between are on other pins. -/
theorem stepKeepsChipSelectLine : Obligations.StepKeepsChipSelectLine := by
  intro s t inv line h
  cases hn : s.takeInput.env.rstN with
  | false =>
    have e : step s = .next s.takeInput.holdReset := if_pos hn
    cases e.symm.trans h
    exact ⟨nofun, by simp [State.holdReset, State.reset], nofun⟩
  | true =>
    have inv' := stepKeepsInvariant s t inv h
    have pending := inv.primPending_eq
    obtain init | ⟨⟨i, e, -⟩, handle, pins⟩ := step_chipSelect inv hn h
    · exact init.lineInv inv line
    · rw [← pending] at pins
      cases e with
      | completes idle done trace cs fault hstate =>
        rw [idle] at pins
        refine lineInv_of_idle done ?_ ?_ <;> rw [handle, pins, cs]
        · exact line.selected
        · rw [fault]
          refine fun hs => line.deselected (pending.symm.trans idle) ?_
          obtain same | ⟨ready, -⟩ := hstate
          · exact same ▸ hs
          · exact .inl ready
      | asserts idle free kind runs trace cs fault index =>
        refine lineInv_of_issued runs cs fun _ hk => ?_
        rw [index] at hk
        exact absurd hk (by decide)
      | asserted flight body request ok done trace cs fault =>
        rw [if_pos flight, request] at pins
        refine lineInv_of_idle done (fun _ => ?_) fun _ hc => absurd (hc.symm.trans cs) nofun
        rw [handle, pins]
        exact PinBank.apply_setl_ok _ _ _ ok
      | goesOn flight body tr ok request runs p next trace cs fault =>
        rw [if_pos flight] at pins
        have low : t.env.pins.level t.handle.pinCs = some .low := by
          rw [handle, pins]
          obtain request | ⟨held, request⟩ := request
          · rw [request]
            exact PinBank.apply_setl_ok _ _ _ ok
          · have other := (request.pin_ne (inv.bound (by simp [tr]))).1
            rw [PinBank.apply_level_other _ _ _ _ fun _ => other.symm]
            exact line.selected held
        refine ⟨fun _ => low, fun h => by simp [runs] at h, fun _ hu => ?_⟩
        have := inv'.held cs
        simp [hu] at this
      | releases body bound runs trace cs fault =>
        exact lineInv_of_issued runs cs fun hu => absurd hu bound
      | released flight request done trace cs fault status =>
        rw [if_pos flight, request] at pins
        refine lineInv_of_idle done (fun hc => absurd (hc.symm.trans cs) nofun) fun _ _ hf => ?_
        rw [fault, Bool.or_eq_false_iff] at hf
        rw [handle, pins]
        exact PinBank.apply_setl_ok _ _ _ hf.2

end Sys2Proof.Machine

/-! SUPPORT. Steps, input events and block reset (O6 to O9, O12, O14, O15). -/

namespace Sys2Proof.Machine

/-! ## One step -/

section
variable {s : State} {i : Instr} (hn : s.takeInput.env.rstN = true)
include hn

/-- The step that accepts a command runs it at the accepted state. -/
theorem step_of_offered {cmd : CmdWord} {opnd : OpndWord} {rest : List (CmdWord × OpndWord)}
    (hb : s.takeInput.busy = false) (hq : s.takeInput.env.cmdQueue = (cmd, opnd) :: rest)
    (hd : decode cmd opnd = .command i) : step s = exec i (s.takeInput.accept cmd opnd rest) := by
  unfold step stepBlock runLatched
  rw [hn, hb, hq]
  simp only [State.accept_sq_cmdL, State.accept_sq_opndL, hd]
  rfl

/-- A step of a busy block runs the latched command. -/
theorem step_of_busy (hb : s.takeInput.busy = true) (hd : decode s.sq.cmdL s.sq.opndL = .command i) :
    step s = exec i s.takeInput.lowerRsp := by
  unfold step stepBlock runLatched
  rw [hn, hb, State.lowerRsp_sq_cmdL, State.lowerRsp_sq_opndL, State.takeInput_sq_cmdL,
    State.takeInput_sq_opndL, hd]
  rfl

/-- A busy block whose latched words decode to no command completes them. -/
theorem step_of_busy_illegal {c : IllegalCause} (hb : s.takeInput.busy = true)
    (hd : decode s.sq.cmdL s.sq.opndL = .illegal c) :
    step s = .next (s.takeInput.lowerRsp.completeIllegal c) := by
  unfold step stepBlock runLatched
  rw [hn, hb, State.lowerRsp_sq_cmdL, State.lowerRsp_sq_opndL, State.takeInput_sq_cmdL,
    State.takeInput_sq_opndL, hd]
  rfl

/-- A step of an idle block with nothing on the port. -/
theorem step_of_idle (hb : s.takeInput.busy = false) (hq : s.takeInput.env.cmdQueue = []) :
    step s = .next s.takeInput.lowerRsp := by
  unfold step stepBlock
  rw [hn, hb, hq]
  rfl

end

/-- A step of a block held in reset. -/
theorem step_of_reset {s : State} (hn : s.takeInput.env.rstN = false) :
    step s = .next s.takeInput.holdReset := if_pos hn

/-- Settles O6: the accepted state, written out. -/
theorem stepRunsOfferedCommand : Obligations.StepRunsOfferedCommand :=
  fun _ _ _ _ _ hn hb hq hd => step_of_offered hn hb hq hd

/-- Settles O7: a busy block's step and an idle block's. -/
theorem stepResumesLatchedCommand : Obligations.StepResumesLatchedCommand :=
  ⟨fun _ _ hn hb hd => step_of_busy hn hb hd, fun _ hn hb hq => step_of_idle hn hb hq⟩

theorem exec_total (i : Instr) (s : State) : ∃ t, exec i s = .next t := by
  cases i <;> exact ⟨_, rfl⟩

theorem runLatched_total (s : State) : ∃ t, runLatched s = .next t := by
  unfold runLatched
  split
  · exact exec_total _ _
  · exact ⟨_, rfl⟩

/-- Settles O8: every branch of a step gives a next state. -/
theorem machineNeverStops : Obligations.MachineNeverStops := by
  refine ⟨fun s => ?_, exec_total⟩
  unfold step stepBlock
  split
  · exact ⟨_, rfl⟩
  · split
    · exact runLatched_total _
    · split
      · exact ⟨_, rfl⟩
      · exact runLatched_total _

/-! ## What a command reads of the inputs -/

/-- The two inputs a command might read, replaced: what stands on the port, and GPIO_READY. -/
def State.withInputs (q : List (CmdWord × OpndWord)) (g : Bool) (s : State) : State :=
  { s with env := { s.env with cmdQueue := q, gpioReady := g } }

section
variable (q : List (CmdWord × OpndWord)) (g : Bool) (s : State)

theorem State.settle_withInputs : (s.withInputs q g).settle = s.settle.withInputs q g := by
  have consumed : { s.env with cmdQueue := q, gpioReady := g }.consume =
      { s.env.consume with cmdQueue := q, gpioReady := g } := by
    unfold Env.consume
    dsimp only
    split <;> rfl
  simp only [State.settle, State.withInputs, consumed]
  rfl

theorem State.outcome_withInputs : (s.withInputs q g).outcome = s.outcome := rfl

theorem State.withInputs_sq : (s.withInputs q g).sq = s.sq := rfl

theorem initResume_withInputs : initResume (s.withInputs q g) = (initResume s).withInputs q g := by
  unfold initResume
  rw [State.settle_withInputs, State.outcome_withInputs, State.withInputs_sq]
  cases s.outcome with
  | ok l => cases s.settle.sq.seq <;> rfl
  | lineFail => rfl
  | timeout => rfl

theorem teardownResume_withInputs :
    teardownResume (s.withInputs q g) = (teardownResume s).withInputs q g := by
  unfold teardownResume
  rw [State.settle_withInputs]
  rfl

theorem assertCsResume_withInputs :
    assertCsResume (s.withInputs q g) = (assertCsResume s).withInputs q g := by
  unfold assertCsResume
  rw [State.settle_withInputs, State.outcome_withInputs, State.withInputs_sq]
  cases s.sq.phase with
  | body => cases s.outcome <;> rfl
  | release => rfl
  | cleanup c k => rfl

theorem deassertCsResume_withInputs :
    deassertCsResume (s.withInputs q g) = (deassertCsResume s).withInputs q g := by
  unfold deassertCsResume
  rw [State.settle_withInputs]
  rfl

theorem State.advance_withInputs : (s.withInputs q g).advance = s.advance.withInputs q g := by
  unfold State.advance
  rw [State.withInputs_sq]
  split <;> rfl

theorem State.transactionResume_withInputs {commit abort : State → State}
    (hc : ∀ u : State, commit (u.withInputs q g) = (commit u).withInputs q g)
    (ha : ∀ u : State, abort (u.withInputs q g) = (abort u).withInputs q g) :
    (s.withInputs q g).transactionResume commit abort =
      (s.transactionResume commit abort).withInputs q g := by
  unfold State.transactionResume
  rw [State.settle_withInputs, State.outcome_withInputs, State.withInputs_sq]
  cases s.sq.phase with
  | body =>
    cases s.outcome with
    | ok l => exact State.advance_withInputs q g (s.settle.absorb l)
    | lineFail => rfl
    | timeout => rfl
  | release =>
    exact congrArg (State.complete .ok .none 0)
      (hc { s.settle.noteRelease s.outcome with hstate := .ready })
  | cleanup c k =>
    exact congrArg (State.complete .busError c k)
      (ha { s.settle.noteRelease s.outcome with hstate := .ready })

theorem State.completeScale_withInputs (ans : ScaleAnswer) :
    (s.withInputs q g).completeScale ans = (s.completeScale ans).withInputs q g := by
  cases ans <;> rfl

/-- INIT's first check reads GPIO_READY; nothing else at an acceptance reads an input. -/
theorem initBegin_withInputs (h : HandleConfig) (hg : g = s.env.gpioReady) :
    initBegin h (s.withInputs q g) = (initBegin h s).withInputs q g := by
  subst hg
  unfold initBegin
  simp only [apply_ite (State.withInputs q s.env.gpioReady)]
  rfl

theorem teardownBegin_withInputs :
    teardownBegin (s.withInputs q g) = (teardownBegin s).withInputs q g := by
  unfold teardownBegin
  simp only [apply_ite (State.withInputs q g)]
  rfl

theorem assertCsBegin_withInputs :
    assertCsBegin (s.withInputs q g) = (assertCsBegin s).withInputs q g := by
  unfold assertCsBegin
  simp only [apply_ite (State.withInputs q g)]
  rfl

theorem deassertCsBegin_withInputs :
    deassertCsBegin (s.withInputs q g) = (deassertCsBegin s).withInputs q g := by
  unfold deassertCsBegin
  simp only [apply_ite (State.withInputs q g)]
  rfl

theorem readRegBegin_withInputs (a : RegAddr) :
    readRegBegin a (s.withInputs q g) = (readRegBegin a s).withInputs q g := by
  unfold readRegBegin
  simp only [apply_ite (State.withInputs q g)]
  rfl

theorem writeRegBegin_withInputs (a : RegAddr) (v : Word16) :
    writeRegBegin a v (s.withInputs q g) = (writeRegBegin a v s).withInputs q g := by
  unfold writeRegBegin
  simp only [apply_ite (State.withInputs q g)]
  rfl

end

/-- A command that is not an INIT at its acceptance runs alike whatever stands on the port and whatever
GPIO_READY is. -/
theorem exec_withInputs {i : Instr} {s t : State} (q : List (CmdWord × OpndWord)) (g : Bool)
    (hi : g = s.env.gpioReady ∨ s.sq.primPending = true ∨ ¬ IsInit i) (h : exec i s = .next t) :
    exec i (s.withInputs q g) = .next (t.withInputs q g) := by
  cases i with
  | init budget cs dr rst dout din sclk clksel =>
    rw [exec_init] at h ⊢; cases h
    refine congrArg _ ?_
    rw [State.withInputs_sq]
    split
    · exact initResume_withInputs ..
    · next hp =>
      obtain hg | hp' | hn := hi
      · exact initBegin_withInputs _ _ _ _ hg
      · exact absurd hp' hp
      · exact absurd (isInit_init ..) hn
  | teardown =>
    rw [exec_teardown] at h ⊢; cases h
    refine congrArg _ ?_
    rw [State.withInputs_sq]
    split
    · exact teardownResume_withInputs ..
    · exact teardownBegin_withInputs ..
  | assertCs =>
    rw [exec_assertCs] at h ⊢; cases h
    refine congrArg _ ?_
    rw [State.withInputs_sq]
    split
    · exact assertCsResume_withInputs ..
    · exact assertCsBegin_withInputs ..
  | deassertCs =>
    rw [exec_deassertCs] at h ⊢; cases h
    refine congrArg _ ?_
    rw [State.withInputs_sq]
    split
    · exact deassertCsResume_withInputs ..
    · exact deassertCsBegin_withInputs ..
  | readReg a =>
    rw [exec_readReg] at h ⊢; cases h
    refine congrArg _ ?_
    rw [State.withInputs_sq]
    split
    · exact State.transactionResume_withInputs (commit := State.commitRead)
        (abort := State.clearRead) _ _ _ (fun _ => rfl) (fun _ => rfl)
    · exact readRegBegin_withInputs ..
  | writeReg a v =>
    rw [exec_writeReg] at h ⊢; cases h
    refine congrArg _ ?_
    rw [State.withInputs_sq]
    split
    · exact State.transactionResume_withInputs _ _ _ (fun _ => rfl) (fun _ => rfl)
    · exact writeRegBegin_withInputs ..
  | scale cat r =>
    rw [exec_scale] at h ⊢; cases h
    exact congrArg _ (State.completeScale_withInputs ..)
  | scaleRd cat =>
    by_cases hc : categoryOf cat = none
    · cases (exec_scaleRd_of_no_category s hc).symm.trans h
      exact exec_scaleRd_of_no_category _ hc
    · cases hr : s.rdataValid with
      | false =>
        cases (exec_scaleRd_of_no_rdata s hc hr).symm.trans h
        exact exec_scaleRd_of_no_rdata _ hc hr
      | true =>
        cases (exec_scaleRd_of_rdata s hc hr).symm.trans h
        rw [← State.completeScale_withInputs]
        exact exec_scaleRd_of_rdata (s.withInputs q g) hc hr
  | setLsb cat v =>
    cases hc : categoryOf cat with
    | none =>
      cases (exec_setLsb_of_no_category s v hc).symm.trans h
      exact exec_setLsb_of_no_category _ v hc
    | some c =>
      cases (exec_setLsb_of_category s v hc).symm.trans h
      exact exec_setLsb_of_category _ v hc
  | setTempOffset v => cases h; rfl

/-- A command writes no input: of the environment it changes the answers left, the pins and the trace. -/
theorem exec_env {i : Instr} {s t : State} (h : exec i s = .next t) :
    t.env = { s.env with
      answers := t.env.answers, draws := t.env.draws, pins := t.env.pins, trace := t.env.trace } := by
  by_cases hi : IsScaling i
  · obtain ⟨r, f, st, c, -, -, -, -, rfl⟩ := exec_scaling_effect hi h
    rfl
  · exact congrArg State.env (exec_effect hi h).frame

section
variable {i : Instr} {s t : State} (h : exec i s = .next t)
include h

theorem exec_cmdQueue : t.env.cmdQueue = s.env.cmdQueue := by rw [exec_env h]

theorem exec_inputs : t.env.inputs = s.env.inputs := by rw [exec_env h]

theorem exec_gpioReady : t.env.gpioReady = s.env.gpioReady := by rw [exec_env h]

theorem exec_rstN : t.env.rstN = s.env.rstN := by rw [exec_env h]

/-- What stands on the port is nothing to a running command (R82). -/
theorem exec_withQueue (q : List (CmdWord × OpndWord)) :
    exec i (s.withQueue q) = .next (t.withQueue q) := by
  have kept : t.withInputs q s.env.gpioReady = t.withQueue q := by rw [← exec_gpioReady h]; rfl
  rw [← kept]
  exact exec_withInputs q s.env.gpioReady (.inl rfl) h

/-- GPIO_READY is nothing to a command that is no INIT at its acceptance (R32). -/
theorem exec_withGpio (g : Bool) (hi : s.sq.primPending = true ∨ ¬ IsInit i) :
    exec i (s.withGpio g) = .next (t.withGpio g) := by
  have kept : t.withInputs s.env.cmdQueue g = t.withGpio g := by rw [← exec_cmdQueue h]; rfl
  rw [← kept]
  exact exec_withInputs s.env.cmdQueue g (.inr hi) h

end

/-! ## Input events -/

/-- One clause for each event of the queue, and the empty one. -/
theorem takeInput_of_event (s : State) (later : List Input) :
    (s.env.inputs = .quiet :: later →
      s.takeInput = { s with env := { s.env with inputs := later } }) ∧
    (∀ cmd opnd, s.env.inputs = .offer cmd opnd :: later →
      s.takeInput = { s with
        env := { s.env with inputs := later, cmdQueue := s.env.cmdQueue ++ [(cmd, opnd)] } }) ∧
    (∀ level, s.env.inputs = .gpio level :: later →
      s.takeInput = { s with env := { s.env with inputs := later, gpioReady := level } }) ∧
    (∀ level, s.env.inputs = .rst level :: later →
      s.takeInput = { s with env := { s.env with inputs := later, rstN := level } }) := by
  have landed {ev : Input} (h : s.env.inputs = ev :: later) :
      s.takeInput = { s with env := { s.env with inputs := later }.applyInput ev } := by
    simp only [State.takeInput, Env.takeInput, h]
  exact ⟨landed, fun _ _ => landed, fun _ => landed, fun _ => landed⟩

/-- A step of a busy block keeps the queue and runs alike with any other. -/
theorem step_withQueue {s t : State} (q : List (CmdWord × OpndWord))
    (hn : s.takeInput.env.rstN = true) (hb : s.busy = true) (h : step s = .next t) :
    t.env.cmdQueue = s.takeInput.env.cmdQueue ∧
      step (s.withQueue q) = .next (t.withQueue (s.withQueue q).takeInput.env.cmdQueue) := by
  have landed := State.takeInput_withQueue s q
  have hn' : (s.withQueue q).takeInput.env.rstN = true := by rw [landed]; exact hn
  cases hd : decode s.sq.cmdL s.sq.opndL with
  | command i =>
    have run : exec i s.takeInput.lowerRsp = .next t := (step_of_busy hn hb hd).symm.trans h
    refine ⟨exec_cmdQueue (s := s.takeInput.lowerRsp) run, (step_of_busy hn' hb hd).trans ?_⟩
    rw [landed]
    exact exec_withQueue run _
  | illegal c =>
    cases (step_of_busy_illegal hn hb hd).symm.trans h
    refine ⟨rfl, (step_of_busy_illegal hn' hb hd).trans ?_⟩
    rw [landed]
    rfl

/-- Settles O9: a running command keeps the queue, and an event writes its own input. -/
theorem offersWaitWhileBusy : Obligations.OffersWaitWhileBusy :=
  ⟨fun _ _ q hn hb h => step_withQueue q hn hb h, State.takeInput_of_quiet, takeInput_of_event⟩

/-- Settles O13: among the commands only INIT at its acceptance reads GPIO_READY. -/
theorem gpioReadySampledOnlyAtInit : Obligations.GpioReadySampledOnlyAtInit := by
  intro s t g hinv hq hi h
  have landed : s.takeInput = s := s.takeInput_of_quiet hq
  have landed' : (s.withGpio g).takeInput = s.withGpio g := State.takeInput_of_quiet _ hq
  obtain ⟨hr, rfl⟩ | ⟨hr, hb, i, hd, he⟩ | ⟨hr, hb, c, hd, -⟩ | ⟨hr, hb, hp, rfl⟩ |
    ⟨hr, hb, cmd, opnd, rest, i, hp, hd, he⟩ | ⟨hr, hb, cmd, opnd, rest, c, hp, hd, rfl⟩ :=
      step_cases h <;> rw [landed] at *
  · rw [step_of_reset (by rw [landed']; exact hr), landed']
    rfl
  · have pending : s.sq.primPending = true := (hinv.running hb).1
    exact (step_busy (s := s.withGpio g) hq hr hb hd).trans (exec_withGpio he g (.inl pending))
  · obtain ⟨-, i, hd', -⟩ := hinv.running hb
    rw [hd] at hd'
    cases hd'
  · refine (step_of_idle (s := s.withGpio g) (by rw [landed']; exact hr) hb
      (by rw [landed']; exact hp)).trans ?_
    rw [landed']
    rfl
  · have other : ¬ IsInit i := by
      rintro ⟨_, _, _, _, _, _, _, _, rfl⟩
      exact hi cmd opnd rest hb hp _ _ _ _ _ _ _ _ hd
    exact (step_accept (s := s.withGpio g) hq hr hb hp hd).trans (exec_withGpio he g (.inr other))
  · exact step_accept_illegal (s := s.withGpio g) hq hr hb hp hd

/-- Settles O12: in time is within the budget, and a late answer is none. -/
theorem pollBudgetDecidesTimeout : Obligations.PollBudgetDecidesTimeout := by
  refine fun budget err level => ⟨fun w hw => ?_, fun w hw => ?_, ?_⟩
  · simp [Answer.outcome, Answer.inTime, Answer.cycles, hw]
  · have late : ¬ w + 1 ≤ budget.toNat := by omega
    simp [Answer.outcome, Answer.inTime, Answer.cycles, late]
  · simp [Answer.outcome, Answer.inTime, Answer.cycles]

/-! ## Block reset -/

/-- Settles O14: the held state is the reset state but for the parameters and the environment. -/
theorem blockResetSetsResetValues : Obligations.BlockResetSetsResetValues := by
  intro s hn
  refine ⟨s.takeInput.holdReset, step_of_reset hn, ?_⟩
  simp only [State.holdReset, State.reset, ScaleFile.reset, HandleConfig.reset, Sequencer.reset]
  decide

theorem cellsGet_erase {α : Type} (j k : Nat) (l : List (Nat × α)) :
    cellsGet j (cellsErase k l) = if j = k then none else cellsGet j l := by
  split
  · next e => rw [e, cellsGet_erase_same]
  · next e => exact cellsGet_erase_other e l

/-- None of the six pins is left with a level (R261). -/
theorem PinBank.forgetLevels_level (b : PinBank) {c : HandleConfig} {p : PinId}
    (hp : p ∈ [c.pinCs, c.pinDr, c.pinRst, c.pinDout, c.pinDin, c.pinSclk]) :
    (b.forgetLevels c).level p = none := by
  simp only [List.mem_cons, List.not_mem_nil, or_false] at hp
  simp only [PinBank.level, PinBank.forgetLevels, cellsGet_erase, BitVec.toNat_inj, ite_eq_left_iff]
  tauto

theorem PinBank.forgetLevels_mode (b : PinBank) (c : HandleConfig) (p : PinId) :
    (b.forgetLevels c).mode p = b.mode p := rfl

theorem State.pinsAfterReset_of_busy {s : State} (hb : s.busy = true) :
    s.pinsAfterReset = (s.env.pins.apply s.sq.preq .timeout).forgetLevels s.handle := if_pos hb

/-- Settles O15: what reset leaves of the pins is `pinsAfterReset`. -/
theorem resetAbandonsCommand : Obligations.ResetAbandonsCommand := by
  intro s hn
  have ready : State.cmdReady { s.takeInput.holdReset with
      env := { s.takeInput.holdReset.env with rstN := true } } = true := rfl
  refine ⟨s.takeInput.holdReset, step_of_reset hn, congrArg (· && true) hn, rfl, rfl,
    s.takeInput_env_trace, s.takeInput_env_answers, rfl, fun hb p hp => ?_, fun hb => ?_, fun hb => ?_,
    ready⟩
  · exact (congrArg (PinBank.level · p) (State.pinsAfterReset_of_busy (s := s.takeInput) hb)).trans
      (PinBank.forgetLevels_level _ hp)
  · have modes (p : PinId) : s.takeInput.holdReset.env.pins.mode p =
        (s.env.pins.apply s.sq.preq .timeout).mode p := by
      refine (congrArg (PinBank.mode · p) (State.pinsAfterReset_of_busy (s := s.takeInput) hb)).trans ?_
      rw [PinBank.forgetLevels_mode, s.takeInput_env_pins]
      rfl
    refine ⟨fun hop => ?_, fun p hp => ?_⟩
    · rw [modes]
      exact PinBank.apply_mode_same hop _ _
    · rw [modes]
      exact PinBank.apply_mode_other _ _ _ _ fun hop => hp.resolve_left fun hne => hne hop
  · exact (State.pinsAfterReset_of_idle (s := s.takeInput) hb).trans s.takeInput_env_pins

end Sys2Proof.Machine

/-! SUPPORT. The observation window, the reset state and the default register map (O17 to O19). -/

namespace Sys2Proof.Machine

/-! ## Words with fields -/

/-- Every bit of the STATE register. -/
theorem getLsbD_obsState (s : State) (j : Nat) : (obsState s).getLsbD j =
    if j < 2 then s.hstate.code.getLsbD j else if j = 2 then s.csAsserted else if j = 3 then s.busy
    else if j = 4 then s.rdataValid else if j = 5 then s.csFault else false := by
  simp only [obsState, BitVec.getLsbD_append, BitVec.ofNat_eq_ofNat, BitVec.getLsbD_zero,
    BitVec.getLsbD_ofBool]
  grind

/-- The fields of the STATE register (R40). -/
theorem obsState_fields (s : State) :
    (obsState s).extractLsb' 0 2 = s.hstate.code ∧
    (obsState s).getLsbD 2 = s.csAsserted ∧ (obsState s).getLsbD 3 = s.busy ∧
    (obsState s).getLsbD 4 = s.rdataValid ∧ (obsState s).getLsbD 5 = s.csFault ∧
    (obsState s).extractLsb' 6 58 = 0 := by
  simp only [getLsbD_obsState]
  refine ⟨BitVec.eq_of_getLsbD_eq fun j hj => ?_, rfl, rfl, rfl, rfl,
    BitVec.eq_of_getLsbD_eq fun j hj => ?_⟩
  · simp [getLsbD_obsState, hj]
  · rw [BitVec.getLsbD_extractLsb', getLsbD_obsState]
    grind

section
variable {m : Nat} (x : BitVec m)

theorem extractLsb'_zeroExtend_low {w : Nat} (h : m ≤ w) :
    (x.zeroExtend w).extractLsb' 0 m = x := by
  refine BitVec.eq_of_getLsbD_eq fun j hj => ?_
  have : j < w := by omega
  simp [hj, this]

theorem extractLsb'_zeroExtend_high (w n : Nat) : (x.zeroExtend w).extractLsb' m n = 0 := by
  refine BitVec.eq_of_getLsbD_eq fun j hj => ?_
  simp

end

/-- The fields of the register of valid bits (R40). -/
theorem validBits_fields (ofs : Bool) (lsb : BitVec 5) :
    ((BitVec.ofBool ofs ++ lsb).zeroExtend 64).extractLsb' 0 5 = lsb ∧
    ((BitVec.ofBool ofs ++ lsb).zeroExtend 64).getLsbD 5 = ofs ∧
    ((BitVec.ofBool ofs ++ lsb).zeroExtend 64).extractLsb' 6 58 = 0 := by
  refine ⟨BitVec.eq_of_getLsbD_eq fun j hj => ?_, ?_, extractLsb'_zeroExtend_high _ 64 58⟩
  · rw [BitVec.getLsbD_extractLsb', BitVec.getLsbD_setWidth, BitVec.getLsbD_append]
    grind
  · rw [BitVec.getLsbD_setWidth, BitVec.getLsbD_append, BitVec.getLsbD_ofBool]
    rfl

/-! ## The window -/

/-- A register beyond the list reads 0 (U12). -/
theorem obs_unlisted (s : State) {n : BitVec 5} (h : 0x0E ≤ n.toNat) : s.obs n = 0 := by
  obtain ⟨k, hk⟩ := Nat.exists_eq_add_of_le h
  rw [State.obs, hk, Nat.add_comm]
  rfl

/-- Settles O17: each register read field by field. -/
theorem observationLayout : Obligations.ObservationLayout := by
  refine ⟨by decide, fun s => ?_⟩
  obtain ⟨state, cs, busy, valid, fault, zero⟩ := obsState_fields s
  obtain ⟨lsb, ofs, zeroB⟩ := validBits_fields s.scale.ofsValid s.scale.lsbValid
  obtain ⟨pcs, pdr, prst, pdout, pdin, psclk, clk, zeroC⟩ := extractLsb'_packPins s.handle.pinCs
    s.handle.pinDr s.handle.pinRst s.handle.pinDout s.handle.pinDin s.handle.pinSclk s.handle.clksel
  exact ⟨state, cs, busy, valid, fault, zero, extractLsb'_zeroExtend_low _ (by decide),
    extractLsb'_zeroExtend_high _ _ _, extractLsb'_zeroExtend_low _ (by decide),
    extractLsb'_zeroExtend_high _ _ _, BitVec.toInt_signExtend_of_le (by decide), rfl, rfl, rfl, rfl,
    rfl, rfl, rfl, lsb, ofs, zeroB, pcs, pdr, prst, pdout, pdin, psclk, clk, zeroC,
    extractLsb'_zeroExtend_low _ (by decide), extractLsb'_zeroExtend_high _ _ _,
    fun n hn => obs_unlisted s hn⟩

/-! ## The reset state and the default map -/

/-- The reset state is what a block held in reset is in. -/
theorem reset_inv : State.reset.Inv :=
  State.holdReset_inv (s := State.reset) ⟨List.Pairwise.nil, List.Pairwise.nil⟩

theorem obs_reset (n : BitVec 5) : State.reset.obs n = 0 := by
  revert n
  decide

/-- Settles O18: the reset state's fields are 0, and nothing runs in it. -/
theorem resetReadsZeroAndIsSafe : Obligations.ResetReadsZeroAndIsSafe :=
  ⟨obs_reset, reset_inv, by nofun, by simp [State.reset], by nofun⟩

/-- Settles O19: the 45 offsets, evaluated. -/
theorem defaultRegisterMap : Obligations.DefaultRegisterMap := by
  unfold Obligations.DefaultRegisterMap
  decide

end Sys2Proof.Machine

/-! SUPPORT. The conversion and the commands that run it (O40 to O42). -/

namespace Sys2Proof.Machine

/-! ## The conversion is the rule's relation -/

/-- A code is a category's, or unsupported (R170). -/
theorem category_or_unsupported (cat : BitVec 3) : (∃ c : Category, cat = c.code) ∨ 5 ≤ cat.toNat := by
  have codes : cat = 0 ∨ cat = 1 ∨ cat = 2 ∨ cat = 3 ∨ cat = 4 ∨ 5 ≤ cat.toNat := by
    revert cat; decide
  obtain rfl | rfl | rfl | rfl | rfl | h := codes
  · exact .inl ⟨.accelerometer, rfl⟩
  · exact .inl ⟨.gyroscope, rfl⟩
  · exact .inl ⟨.temperature, rfl⟩
  · exact .inl ⟨.deltaAngle, rfl⟩
  · exact .inl ⟨.deltaVelocity, rfl⟩
  · exact .inr h

theorem code_lt (c : Category) : c.code.toNat < 5 := by cases c <;> decide

section
variable {f : ScaleFile} {r : Word16} {cat : BitVec 3} {ans : ScaleAnswer}

theorem scaleValue_of_not_valid {c : Category} (hv : f.isValid c = false) :
    scaleValue f r c.code = .fail .notConfigured := by
  rw [scaleValue, categoryOf_code]
  cases c <;> simp [hv]

theorem scaleValue_of_no_offset (ho : f.ofsValid = false) :
    scaleValue f r 2 = .fail .notConfigured :=
  if_neg (by simp [ho])

theorem scaleValue_of_unsupported (h : 5 ≤ cat.toNat) :
    scaleValue f r cat = .fail .invalidCategory := by
  rw [scaleValue, (categoryOf_eq_none_iff cat).mpr h]

/-- Each clause of the relation is what the conversion computes. -/
theorem Converts.scaleValue_eq (h : Converts f r cat ans) : scaleValue f r cat = ans := by
  cases h with
  | accelerometer hv => exact scaleValue_code f r (c := .accelerometer) (by decide) hv
  | gyroscope hv => exact scaleValue_code f r (c := .gyroscope) (by decide) hv
  | temperature hv ho => exact scaleValue_temperature f r hv ho
  | deltaAngle hv => exact scaleValue_code f r (c := .deltaAngle) (by decide) hv
  | deltaVelocity hv => exact scaleValue_code f r (c := .deltaVelocity) (by decide) hv
  | constantMissing hlt hv =>
    obtain ⟨c, rfl⟩ | h := category_or_unsupported cat
    · exact scaleValue_of_not_valid hv
    · omega
  | offsetMissing ho => exact scaleValue_of_no_offset ho
  | unsupported h => exact scaleValue_of_unsupported h

/-- What the conversion computes for a category is one of the relation's clauses. -/
theorem converts_category (c : Category) : Converts f r c.code (scaleValue f r c.code) := by
  cases hv : f.isValid c with
  | false =>
    rw [scaleValue_of_not_valid hv]
    exact .constantMissing (code_lt c) hv
  | true =>
    cases c with
    | accelerometer =>
      rw [scaleValue_code f r (by decide) hv]
      exact .accelerometer hv
    | gyroscope =>
      rw [scaleValue_code f r (by decide) hv]
      exact .gyroscope hv
    | temperature =>
      cases ho : f.ofsValid with
      | false =>
        rw [show scaleValue f r Category.temperature.code = _ from scaleValue_of_no_offset ho]
        exact .offsetMissing ho
      | true =>
        rw [show scaleValue f r Category.temperature.code = _ from scaleValue_temperature f r hv ho]
        exact .temperature hv ho
    | deltaAngle =>
      rw [scaleValue_code f r (by decide) hv]
      exact .deltaAngle hv
    | deltaVelocity =>
      rw [scaleValue_code f r (by decide) hv]
      exact .deltaVelocity hv

end

/-- Settles O40: each clause is what is computed, and what is computed is a clause's. -/
theorem conversionIsAFunction : Obligations.ConversionIsAFunction := by
  refine fun f r cat ans => ⟨Converts.scaleValue_eq, ?_⟩
  rintro rfl
  obtain ⟨c, rfl⟩ | h := category_or_unsupported cat
  · exact converts_category c
  · rw [scaleValue_of_unsupported h]
    exact .unsupported h

/-! ## SCALE and SCALE.RD -/

/-- A word decodes to a SCALE exactly when it matches the row, its operands read from CAT and IMM16
(R102, R105). -/
theorem decode_eq_scale_iff (cmd : CmdWord) (opnd : OpndWord) (cat : BitVec 3) (r : Word16) :
    decode cmd opnd = .command (.scale cat r) ↔
      cmd &&& 0x0000FF8F = 0x00000007 ∧ fieldCat cmd = cat ∧ fieldImm16 cmd = r := by
  have row : cmd &&& 0x0000FF8F = 0x00000007 ↔ RowFields cmd (.scale cat r) :=
    and_mask_eq_match_iff cmd (.scale cat r)
  have decoded (h : RowFields cmd (.scale cat r)) :
      decode cmd opnd = .command (.scale (fieldCat cmd) (fieldImm16 cmd)) := by
    obtain ⟨addr, src, op⟩ := h
    simp [decode, op, addr, src]
  rw [row]
  refine ⟨fun h => ?_, fun ⟨fields, hcat, hr⟩ => by rw [decoded fields, hcat, hr]⟩
  have fields := rowFields_of_decode h
  rw [decoded fields] at h
  cases h
  exact ⟨fields, rfl, rfl⟩

/-- A word decodes to a SCALE.RD exactly when it matches the row, its operand read from CAT
(R102, R105). -/
theorem decode_eq_scaleRd_iff (cmd : CmdWord) (opnd : OpndWord) (cat : BitVec 3) :
    decode cmd opnd = .command (.scaleRd cat) ↔
      cmd &&& 0xFFFFFF8F = 0x00000087 ∧ fieldCat cmd = cat := by
  have row : cmd &&& 0xFFFFFF8F = 0x00000087 ↔ RowFields cmd (.scaleRd cat) :=
    and_mask_eq_match_iff cmd (.scaleRd cat)
  have decoded (h : RowFields cmd (.scaleRd cat)) :
      decode cmd opnd = .command (.scaleRd (fieldCat cmd)) := by
    obtain ⟨imm, addr, src, op⟩ := h
    simp [decode, op, addr, src, imm]
  rw [row]
  refine ⟨fun h => ?_, fun ⟨fields, hcat⟩ => by rw [decoded fields, hcat]⟩
  have fields := rowFields_of_decode h
  rw [decoded fields] at h
  cases h
  exact ⟨fields, rfl⟩

/-- The completion of a scale, written out. -/
theorem State.completeScale_eq_scaled (s : State) {f : ScaleFile} {r : Word16} {cat : BitVec 3}
    {ans : ScaleAnswer} (h : Converts f r cat ans) :
    s.completeScale (scaleValue f r cat) = s.scaled ans := by
  rw [h.scaleValue_eq]
  cases ans <;> rfl

/-- Settles O41: SCALE's word, and its completion. -/
theorem scaleRule : Obligations.ScaleRule := by
  refine ⟨decode_eq_scale_iff, fun s cat r ans h => ?_⟩
  rw [exec_scale, s.completeScale_eq_scaled h]

/-- Settles O42: SCALE.RD's word, and its three ways to complete. -/
theorem scaleRdRule : Obligations.ScaleRdRule := by
  refine ⟨decode_eq_scaleRd_iff, fun s cat => ⟨fun h => ?_, fun h hr => ?_, fun h hr ans hc => ?_⟩⟩
  · exact exec_scaleRd_of_no_category s ((categoryOf_eq_none_iff cat).mpr h)
  · exact exec_scaleRd_of_no_rdata s (by rw [Ne, categoryOf_eq_none_iff]; omega) hr
  · rw [exec_scaleRd_of_rdata s (by rw [Ne, categoryOf_eq_none_iff]; omega) hr,
      s.completeScale_eq_scaled hc]

end Sys2Proof.Machine

/-! SUPPORT. Rounding to nearest, ties to even, and what fadd64, fmul64 and the assembler's decimals make of
it (O5, O46, O47, O48). -/

namespace Sys2Proof.Machine

/-! ## Nearest multiples -/

/-- `r` units are nearest to `x`, ties to even. -/
structure NearestEven (x unit r : Nat) : Prop where
  le : 2 * (r * unit) ≤ 2 * x + unit
  ge : 2 * x ≤ 2 * (r * unit) + unit
  even : 2 * (r * unit) = 2 * x + unit ∨ 2 * x = 2 * (r * unit) + unit → r % 2 = 0

theorem nearestEven_roundHalfEven (x : Nat) {unit : Nat} (h : 0 < unit) :
    NearestEven x unit (roundHalfEven x unit) := by
  have split_x : x / unit * unit + x % unit = x := Nat.div_add_mod' x unit
  have rem_lt : x % unit < unit := Nat.mod_lt x h
  rw [roundHalfEven]
  split
  · next up =>
    have next_unit : (x / unit + 1) * unit = x / unit * unit + unit := Nat.succ_mul ..
    constructor <;> omega
  · next down => constructor <;> omega

section
variable {x unit r n : Nat} (hr : NearestEven x unit r)
include hr

/-- No multiple is nearer, and one as near leaves the even one chosen. -/
theorem NearestEven.nearest (m : Nat) :
    magDist (r * unit) x ≤ magDist (m * unit) x ∧
      (magDist (m * unit) x = magDist (r * unit) x → m * unit = r * unit ∨ r % 2 = 0) := by
  obtain ⟨le, ge, even⟩ := hr
  unfold magDist
  obtain hm | rfl | hm := Nat.lt_trichotomy m r
  · have : (m + 1) * unit ≤ r * unit := Nat.mul_le_mul_right _ hm
    rw [Nat.succ_mul] at this
    omega
  · omega
  · have : (r + 1) * unit ≤ m * unit := Nat.mul_le_mul_right _ hm
    rw [Nat.succ_mul] at this
    omega

/-- Below the middle of unit `n` and the one before, rounding stays below `n`. -/
theorem NearestEven.lt_of_lt (h : 2 * x + unit < 2 * (n * unit)) : r < n := by
  by_contra hn
  have : n * unit ≤ r * unit := Nat.mul_le_mul_right _ (not_lt.mp hn)
  have := hr.le
  omega

/-- From the middle of an even unit `n` and the one before on, rounding reaches `n`. -/
theorem NearestEven.ge_of_ge (hu : 0 < unit) (hn : n % 2 = 0) (h : 2 * (n * unit) ≤ 2 * x + unit) :
    n ≤ r := by
  by_contra hlt
  have : (r + 1) * unit ≤ n * unit := Nat.mul_le_mul_right _ (not_le.mp hlt)
  rw [Nat.succ_mul] at this
  have tie : 2 * x = 2 * (r * unit) + unit := by have := hr.ge; omega
  have even := hr.even (.inr tie)
  have below : (r + 2) * unit ≤ n * unit := Nat.mul_le_mul_right _ (by omega)
  rw [Nat.add_mul] at below
  omega

end

/-! ## The significand -/

/-- `droppedBits` leaves 53 bits, all of them used where a bit is dropped. -/
theorem droppedBits_bounds (num : Nat) {den : Nat} (hden : 0 < den) :
    num < 2 ^ 53 * (den * 2 ^ droppedBits num den) ∧
      (droppedBits num den = 0 ∨ 2 ^ 52 * (den * 2 ^ droppedBits num den) ≤ num) := by
  have unit (k : Nat) : 2 ^ k * (den * 2 ^ droppedBits num den) =
      2 ^ (k + droppedBits num den) * den := by ring
  rw [unit, unit, ← Nat.div_lt_iff_lt_mul hden, ← Nat.le_div_iff_mul_le hden]
  refine ⟨Nat.lt_log2_self.trans_le (Nat.pow_le_pow_right two_pos (by unfold droppedBits; omega)), ?_⟩
  refine or_iff_not_imp_left.mpr fun hd => ?_
  have hlog : 52 + droppedBits num den = (num / den).log2 := by unfold droppedBits at hd ⊢; omega
  rw [hlog]
  refine Nat.log2_self_le fun h0 => hd ?_
  rw [droppedBits, h0]
  rfl

/-- What rounding makes of `num / den`: `q` units of `2 ^ d`, nearest to it, in at most 53 bits or just
one more than their largest value. -/
structure RoundsTo (num den d q : Nat) : Prop where
  nearest : NearestEven num (den * 2 ^ d) q
  below : num < 2 ^ 53 * (den * 2 ^ d)
  full : d = 0 ∨ 2 ^ 52 * (den * 2 ^ d) ≤ num

section
variable {num den d q : Nat}

theorem exists_roundsTo (num : Nat) {den : Nat} (hden : 0 < den) :
    ∃ d q, RoundsTo num den d q ∧ roundMag num den = min (d * 2 ^ 52 + q) (2047 * 2 ^ 52) :=
  ⟨_, _, ⟨nearestEven_roundHalfEven num (by positivity), (droppedBits_bounds num hden).1,
    (droppedBits_bounds num hden).2⟩, rfl⟩

variable (h : RoundsTo num den d q) (hden : 0 < den)
include h hden

theorem RoundsTo.le : q ≤ 2 ^ 53 := by
  have unit_pos : 0 < den * 2 ^ d := by positivity
  refine Nat.le_of_lt_succ (h.nearest.lt_of_lt ?_)
  have := h.below
  rw [Nat.succ_mul]
  omega

theorem RoundsTo.ge : d = 0 ∨ 2 ^ 52 ≤ q := by
  have unit_pos : 0 < den * 2 ^ d := by positivity
  refine h.full.imp_right fun full => h.nearest.ge_of_ge unit_pos (by decide) ?_
  omega

/-- The pattern whose magnitude bits are `d * 2 ^ 52 + q` has `q` units, a carry to the next binade
included. -/
theorem RoundsTo.fMag_eq {b : F64} (hb : magBits b = d * 2 ^ 52 + q) : fMag b = q * 2 ^ d := by
  obtain hq | rfl := (h.le hden).lt_or_eq
  · exact fMag_of_magBits ⟨hq, h.ge hden⟩ hb
  · rw [fMag_of_magBits (q := 2 ^ 52) (d := d + 1) ⟨by decide, .inr le_rfl⟩ (hb.trans (by ring))]
    ring

/-- No pattern is nearer to `num / den`: one of a binade below is farther than the least full
significand, and any other is a number of units. -/
theorem RoundsTo.nearest_pattern (c : F64) :
    magDist (q * 2 ^ d * den) num ≤ magDist (fMag c * den) num ∧
      (magDist (fMag c * den) num = magDist (q * 2 ^ d * den) num →
        fMag c = q * 2 ^ d ∨ q % 2 = 0) := by
  have units (m : Nat) : m * 2 ^ d * den = m * (den * 2 ^ d) := by ring
  obtain ⟨m, e, hs, hc⟩ := exists_isSignificand c
  rw [fMag_of_magBits hs hc, units]
  obtain he | he := le_or_gt d e
  · have multiple : m * 2 ^ e = m * 2 ^ (e - d) * 2 ^ d := by
      rw [Nat.mul_assoc, ← Nat.pow_add, Nat.sub_add_cancel he]
    rw [multiple, units]
    obtain ⟨le, tie⟩ := h.nearest.nearest (m * 2 ^ (e - d))
    refine ⟨le, fun eq => (tie eq).imp_left fun same => ?_⟩
    rw [← units, ← units] at same
    exact Nat.eq_of_mul_eq_mul_right hden same
  · have full := h.full.resolve_left (by omega)
    obtain ⟨le, -⟩ := h.nearest.nearest (2 ^ 52)
    have small : m * 2 ^ e * den < 2 ^ 52 * (den * 2 ^ d) := by
      calc m * 2 ^ e * den < 2 ^ 53 * 2 ^ e * den := by
            have := hs.lt
            gcongr
        _ = 2 ^ 52 * 2 ^ (e + 1) * den := by ring
        _ ≤ 2 ^ 52 * 2 ^ d * den := by gcongr; exacts [one_le_two, he]
        _ = _ := by ring
    unfold magDist at *
    omega

omit h hden in
theorem mul_two_pow_add (k e : Nat) : den * 2 ^ (k + e) = 2 ^ e * (2 ^ k * den) := by ring

/-- Below the middle of the largest finite value and the next power of two the result is finite. -/
theorem RoundsTo.finite (hnum : num < (2 ^ 54 - 1) * 2 ^ 2044 * den) :
    d * 2 ^ 52 + q < 2047 * 2 ^ 52 := by
  have le := h.le hden
  rw [Nat.mul_assoc] at hnum
  obtain hd | rfl | hd := Nat.lt_trichotomy d 2045
  · omega
  · have unit : den * 2 ^ 2045 = 2 * (2 ^ 2044 * den) := mul_two_pow_add 2044 1
    have := h.nearest.lt_of_lt (n := 2 ^ 53) (by omega)
    omega
  · have full := h.full.resolve_left (by omega)
    have unit : 4 * (2 ^ 2044 * den) ≤ den * 2 ^ d := by
      calc 4 * (2 ^ 2044 * den) = den * 2 ^ 2046 := (mul_two_pow_add 2044 2).symm
        _ ≤ den * 2 ^ d := Nat.mul_le_mul_left _ (Nat.pow_le_pow_right two_pos hd)
    omega

/-- From there on it is infinity. -/
theorem RoundsTo.infinite (hnum : (2 ^ 54 - 1) * 2 ^ 2044 * den ≤ num) :
    2047 * 2 ^ 52 ≤ d * 2 ^ 52 + q := by
  have ge := h.ge hden
  rw [Nat.mul_assoc] at hnum
  obtain hd | rfl | hd := Nat.lt_trichotomy d 2045
  · have below := h.below
    have unit_pos : 0 < 2 ^ 2044 * den := by positivity
    have unit : den * 2 ^ d ≤ 2 ^ 2044 * den := by
      rw [Nat.mul_comm]
      exact Nat.mul_le_mul_right _ (Nat.pow_le_pow_right two_pos (Nat.le_of_lt_succ hd))
    omega
  · have unit : den * 2 ^ 2045 = 2 * (2 ^ 2044 * den) := mul_two_pow_add 2044 1
    have := h.nearest.ge_of_ge (n := 2 ^ 53) (by positivity) (by decide) (by omega)
    omega
  · omega

end

/-! ## The pattern -/

theorem isInf_iff (b : F64) : isInf b = true ↔ magBits b = 2047 * 2 ^ 52 := by
  have hb : magBits b < 2 ^ 63 := Nat.mod_lt _ (by decide)
  rw [isInf, Bool.and_eq_true, beq_iff_eq, beq_iff_eq, ← BitVec.toNat_inj, ← BitVec.toNat_inj,
    fExp_toNat, fFrac_toNat]
  change _ = 2047 ∧ _ = 0 ↔ _
  omega

theorem getLsbD_zero_of_magBits {b : F64} {d q : Nat} (hb : magBits b = d * 2 ^ 52 + q)
    (hq : q % 2 = 0) : b.getLsbD 0 = false := by
  rw [← BitVec.testBit_toNat, Nat.testBit_zero]
  unfold magBits at hb
  exact decide_eq_false (by omega)

/-- `v` is finite and nearest to `num / den` among the finite patterns, ties to an even last bit. -/
def NearestPattern (v : F64) (num den : Nat) : Prop :=
  isFinite v = true ∧
  ∀ c : F64, isFinite c = true →
    magDist (fMag v * den) num ≤ magDist (fMag c * den) num ∧
    (magDist (fMag c * den) num = magDist (fMag v * den) num →
      fMag c = fMag v ∨ v.getLsbD 0 = false)

/-- Rounding (R171): the nearest finite pattern, or from the threshold on infinity. -/
theorem roundF64_nearest (neg : Bool) (num : Nat) {den : Nat} (hden : 0 < den) :
    (num < (2 ^ 54 - 1) * 2 ^ 2044 * den → NearestPattern (roundF64 neg num den) num den) ∧
      ((2 ^ 54 - 1) * 2 ^ 2044 * den ≤ num → isInf (roundF64 neg num den) = true) := by
  obtain ⟨d, q, h, mag⟩ := exists_roundsTo num hden
  rw [← magBits_roundF64 neg] at mag
  refine ⟨fun hnum => ?_, fun hnum => ?_⟩
  · have finite := h.finite hden hnum
    have hb : magBits (roundF64 neg num den) = d * 2 ^ 52 + q := mag.trans (min_eq_left finite.le)
    refine ⟨(isFinite_iff _).mpr (hb.trans_lt finite), fun c _ => ?_⟩
    rw [h.fMag_eq hden hb]
    obtain ⟨le, tie⟩ := h.nearest_pattern hden c
    exact ⟨le, fun eq => (tie eq).imp_right (getLsbD_zero_of_magBits hb)⟩
  · exact (isInf_iff _).mpr (mag.trans (min_eq_right (h.infinite hden hnum)))

/-- Settles O46: a product of finite patterns is one rounding of the product of the magnitudes. -/
theorem multiplyRoundsToNearestEven : Obligations.MultiplyRoundsToNearestEven := by
  intro a b ha hb
  rw [fmul64_of_isFinite ha hb]
  exact ⟨fSign_roundF64 .., roundF64_nearest _ _ (by positivity)⟩

/-- Settles O47: a sum of finite patterns that is not zero is one rounding of the exact sum. -/
theorem addRoundsToNearestEven : Obligations.AddRoundsToNearestEven := by
  intro a b ha hb
  rw [fadd64_of_isFinite ha hb]
  refine ⟨fun hz => by rw [if_pos hz]; rfl, fun hz => ?_⟩
  rw [if_neg hz]
  have rounded := roundF64_nearest (decide (fVal a + fVal b < 0)) (fVal a + fVal b).natAbs one_pos
  simp only [NearestPattern, Nat.mul_one] at rounded
  exact ⟨fSign_roundF64 .., rounded⟩

/-! ## NaNs and infinities -/

theorem isNaN_roundF64 (neg : Bool) (num den : Nat) : isNaN (roundF64 neg num den) = false := by
  have hle := roundMag_le num den
  rw [← magBits_roundF64 neg] at hle
  obtain h | h := hle.lt_or_eq
  · exact isNaN_of_isFinite ((isFinite_iff _).mpr h)
  · have inf := (isInf_iff _).mpr h
    simp_all [isInf, isNaN]

section
variable {a b : F64}

theorem isNaN_of_isInf (h : isInf a = true) : isNaN a = false := by
  simp_all [isInf, isNaN]

theorem isZero_of_isInf (h : isInf a = true) : isZero a = false := by
  simp_all [isInf, isZero]

theorem isInf_fInf (neg : Bool) : isInf (fInf neg) = true := by cases neg <;> decide

theorem fSign_fInf (neg : Bool) : fSign (fInf neg) = neg := by cases neg <;> decide

/-- Infinities of one sign are one pattern. -/
theorem eq_of_isInf (ha : isInf a = true) (hb : isInf b = true) (hs : fSign a = fSign b) : a = b :=
  eq_of_sign_of_magBits hs (((isInf_iff a).mp ha).trans ((isInf_iff b).mp hb).symm)

theorem fmul64_comm (a b : F64) : fmul64 a b = fmul64 b a := by
  unfold fmul64
  rw [Bool.or_comm (isNaN a), Bool.or_comm (isInf a), Bool.or_comm (isZero a), Bool.xor_comm,
    Nat.mul_comm (fMag a)]

theorem fmul64_of_isNaN (h : isNaN a = true ∨ isNaN b = true) : fmul64 a b = canonicalNaN :=
  if_pos (by simpa using h)

theorem fadd64_of_isNaN_or (h : isNaN a = true ∨ isNaN b = true) : fadd64 a b = canonicalNaN :=
  if_pos (by simpa using h)

/-- Infinity times a number is the canonical NaN for a zero, else the infinity of the signs. -/
theorem fmul64_of_isInf (ha : isInf a = true) (hb : isNaN b = false) :
    fmul64 a b = if isZero b then canonicalNaN else fInf (fSign a ^^ fSign b) := by
  rw [fmul64, isNaN_of_isInf ha, hb, ha, isZero_of_isInf ha, Bool.or_self, Bool.true_or,
    Bool.false_or, if_neg Bool.false_ne_true, if_pos rfl]

/-- Infinity plus a number is the canonical NaN for the opposite infinity, else that infinity. -/
theorem fadd64_of_isInf_left (ha : isInf a = true) (hb : isNaN b = false) :
    fadd64 a b = if isInf b && (fSign a != fSign b) then canonicalNaN else a := by
  rw [fadd64, isNaN_of_isInf ha, hb, ha]
  rfl

/-- A number plus infinity is that infinity but for the opposite one. -/
theorem fadd64_of_isInf_right (ha : isInf a = true) (hb : isNaN b = false)
    (hs : isInf b = true → fSign a = fSign b) : fadd64 b a = a := by
  cases hi : isInf b with
  | false => exact fadd64_of_isInf (isFinite_of_not_isNaN hb hi) ha (isNaN_of_isInf ha)
  | true =>
    rw [eq_of_isInf hi ha (hs hi).symm, fadd64_of_isInf_left ha (isNaN_of_isInf ha)]
    simp

theorem isNaN_of_isZero (h : isZero a = true) : isNaN a = false := by
  simp_all [isZero, isNaN]

end

/-- A product that is a NaN is the canonical one. -/
theorem fmul64_eq_canonicalNaN {a b : F64} (h : isNaN (fmul64 a b) = true) :
    fmul64 a b = canonicalNaN := by
  unfold fmul64 at h ⊢
  split_ifs at h ⊢
  · rfl
  · rfl
  · simp [isNaN_of_isInf (isInf_fInf _)] at h
  · exact absurd ((isNaN_roundF64 ..).symm.trans h) Bool.false_ne_true

/-- A sum that is a NaN is the canonical one. -/
theorem fadd64_eq_canonicalNaN {a b : F64} (h : isNaN (fadd64 a b) = true) :
    fadd64 a b = canonicalNaN := by
  have zero (neg : Bool) : isNaN (fZero neg) = false := by cases neg <;> decide
  unfold fadd64 at h ⊢
  split_ifs at h ⊢
  · rfl
  · rfl
  · simp_all
  · simp_all
  · simp [zero] at h
  · exact absurd ((isNaN_roundF64 ..).symm.trans h) Bool.false_ne_true

/-- Settles O48: the branches of fmul64 and fadd64 before their roundings, which give no NaN. -/
theorem specialValuesOfArithmetic : Obligations.SpecialValuesOfArithmetic := by
  refine fun a b => ⟨fun h => ⟨fmul64_of_isNaN h, fadd64_of_isNaN_or h⟩, fun ha hz => ?_,
    fun ha hn hz => ?_, fun ha hb hs => ?_, fun ha hn hs => ⟨?_, fadd64_of_isInf_right ha hn hs⟩,
    fmul64_eq_canonicalNaN, fadd64_eq_canonicalNaN⟩
  · rw [fmul64_comm b a, fmul64_of_isInf ha (isNaN_of_isZero hz), if_pos hz]
    exact ⟨rfl, rfl⟩
  · rw [fmul64_comm b a, fmul64_of_isInf ha hn, hz]
    exact ⟨isInf_fInf _, fSign_fInf _, isInf_fInf _, fSign_fInf _⟩
  · rw [fadd64_of_isInf_left ha (isNaN_of_isInf hb), hb]
    simp [hs, canonicalNaN]
  · rw [fadd64_of_isInf_left ha hn]
    cases hi : isInf b with
    | false => rfl
    | true => simp [hs hi]

/-! ## The assembler's operands and lines -/

theorem WordOperand.decimal_in_range {n : Int} (hl : -32768 ≤ n) (hu : n ≤ 32767) :
    ∃ w : Word16, (WordOperand.decimal n).value = some w ∧ w.toInt = n := by
  refine ⟨BitVec.ofInt 16 n, if_pos ⟨hl, hu⟩, ?_⟩
  rw [BitVec.toInt_ofInt, Int.bmod_def]
  omega

theorem WordOperand.decimal_out_of_range {n : Int} (h : n < -32768 ∨ 32767 < n) :
    (WordOperand.decimal n).value = none := if_neg (by omega)

/-- Settles O5: each operand form has its value, a decimal literal is rounded once, and each line is its
commands, whose words decode back. -/
theorem assemblerEmitsLegalWords : Obligations.AssemblerEmitsLegalWords := by
  refine ⟨fun _ _ _ i _ => decodeEncodeRoundTrip i, ⟨fun _ => rfl, fun _ => rfl, rfl, rfl, rfl⟩,
    ⟨fun _ => rfl, fun _ => WordOperand.decimal_in_range, fun _ => WordOperand.decimal_out_of_range⟩,
    ⟨rfl, rfl, rfl, rfl, rfl, fun _ => rfl⟩, ⟨fun _ => rfl, fun neg digits places => ?_⟩,
    ⟨fun _ _ _ _ _ _ _ => rfl, fun _ _ _ _ _ _ _ _ => rfl, rfl, rfl, rfl, fun _ => rfl,
      fun a w => ⟨fun v hv => ?_, fun hv => ?_⟩, fun c w => ⟨fun v hv => ?_, fun hv => ?_⟩,
      fun _ => rfl, fun _ _ => rfl, fun _ => rfl⟩, fun _ _ => rfl, fun _ _ => rfl⟩
  · exact ⟨fSign_roundF64 .., roundF64_nearest _ _ (by positivity)⟩
  · rw [AsmLine.assemble, hv]; rfl
  · rw [AsmLine.assemble, hv]; rfl
  · rw [AsmLine.assemble, hv]; rfl
  · rw [AsmLine.assemble, hv]; rfl

end Sys2Proof.Machine

/-! SUPPORT. Whole runs of READ_REG and WRITE_REG (O36 to O38). -/

namespace Sys2Proof.Machine

/-! ## Runs -/

theorem State.after_add {s t : State} (m n : Nat) (h : s.after m = .next t) :
    s.after (m + n) = t.after n := by
  induction m generalizing s with
  | zero =>
    cases h
    rw [Nat.zero_add]
  | succ m ih =>
    obtain ⟨u, hu⟩ := machineNeverStops.1 s
    rw [State.after_succ m hu] at h
    rw [Nat.succ_add, State.after_succ _ hu, ih h]

theorem State.after_one {s t : State} (h : step s = .next t) : s.after 1 = .next t :=
  (State.after_succ 0 h).trans t.after_zero

/-- One step more. -/
theorem State.after_step {s t u : State} {n : Nat} (h : s.after n = .next t) (hs : step t = .next u) :
    s.after (n + 1) = .next u := (State.after_add n 1 h).trans (State.after_one hs)

/-! ## The answers a command uses -/

theorem Env.consume_answers (e : Env) : e.consume.answers = e.answers.tail := by
  unfold Env.consume
  split <;> next h => rw [h]; rfl

theorem CommandEffect.answers {i : Instr} {s t : State} (e : CommandEffect i s t) :
    t.env.answers = s.settled.env.answers := by
  cases e with
  | issues u p l k ph w _ eq =>
    obtain ⟨_, _, _, _, _, _, _, hu⟩ := w.frame
    rw [eq, hu]
    rfl
  | completes u st c k w _ eq =>
    obtain ⟨_, _, _, _, _, _, _, hu⟩ := w.frame
    rw [eq, hu]
    rfl

theorem exec_answers_of_idle {i : Instr} {s t : State} (hi : ¬ IsScaling i)
    (hp : s.sq.primPending = false) (h : exec i s = .next t) : t.env.answers = s.env.answers := by
  rw [(exec_effect hi h).answers, State.settled_of_idle hp]

theorem exec_answers_of_pending {i : Instr} {s t : State} (hi : ¬ IsScaling i)
    (hp : s.sq.primPending = true) (h : exec i s = .next t) :
    t.env.answers = s.env.answers.tail := by
  rw [(exec_effect hi h).answers, State.settled_of_pending hp]
  exact s.env.consume_answers

theorem State.outcome_of_answers {s : State} {a : Answer} {more : List Answer}
    (h : s.env.answers = a :: more) : s.outcome = a.outcome s.handle.pollBudget := by
  rw [State.outcome, Env.answer, h]

/-! ## A command under way -/

/-- Command `i`, offered in `s` before the commands `rest`, is under way in `t`: it has issued `issued`, the
last of them in flight, and the answers `left` are to come. -/
structure UnderWay (s : State) (i : Instr) (rest : List (CmdWord × OpndWord)) (left : List Answer)
    (issued : List Request) (t : State) : Prop where
  frame : t = { s with
    hstate := t.hstate, csAsserted := t.csAsserted, busy := true, rspValid := false,
    handle := t.handle, sq := t.sq,
    env := { s.env with
      cmdQueue := rest, answers := left, draws := t.env.draws, pins := t.env.pins,
      trace := s.env.trace ++ issued } }
  latched : decode t.sq.cmdL t.sq.opndL = .command i
  pending : t.sq.primPending = true

section
variable {s t u : State} {i : Instr} {rest : List (CmdWord × OpndWord)} {a : Answer}
  {more : List Answer} {issued : List Request}

/-- The step that accepts an offered command. -/
theorem Offered.step_eq (h : Offered s i rest) :
    ∃ cmd opnd, decode cmd opnd = .command i ∧ step s = exec i (s.accept cmd opnd rest) := by
  obtain ⟨cmd, opnd, port, hd⟩ := h.port
  exact ⟨cmd, opnd, hd, step_accept h.quiet h.outOfReset h.idle port hd⟩

variable (w : UnderWay s i rest (a :: more) issued t)
include w

/-- A command under way goes on with the latched words. -/
theorem UnderWay.step_eq (h : Offered s i rest) : step t = exec i t := by
  have quiet : t.lowerRsp = t := by
    rw [w.frame]
    rfl
  have inputs : t.env.inputs = [] := by rw [w.frame]; exact h.quiet
  have rstN : t.env.rstN = true := by rw [w.frame]; exact h.outOfReset
  have busy : t.busy = true := by rw [w.frame]
  rw [step_busy inputs rstN busy w.latched, quiet]

theorem UnderWay.outcome_eq : t.outcome = a.outcome t.handle.pollBudget :=
  State.outcome_of_answers (more := more) (by rw [w.frame])

/-- What the next step leaves of the environment. -/
theorem UnderWay.env_next (hi : ¬ IsScaling i) (h : exec i t = .next u) :
    u.env = { s.env with
      cmdQueue := rest, answers := more, draws := u.env.draws, pins := u.env.pins,
      trace := u.env.trace } := by
  have answers : u.env.answers = more := by
    rw [exec_answers_of_pending hi w.pending h, w.frame]
    rfl
  rw [exec_env h, answers, w.frame]

/-- The command is still under way after a step that issues a primitive. -/
theorem UnderWay.next (hi : ¬ IsScaling i) (h : exec i t = .next u)
    (frame : u = { t with csAsserted := u.csAsserted, sq := u.sq, env := u.env })
    (hp : u.sq.primPending = true) {p : Request} (ht : u.env.trace = t.env.trace ++ [p]) :
    UnderWay s i rest more (issued ++ [p]) u := by
  obtain ⟨hc, ho⟩ := exec_sameLatch h
  refine ⟨?_, by rw [hc, ho]; exact w.latched, hp⟩
  have trace : u.env.trace = s.env.trace ++ (issued ++ [p]) := by
    rw [ht, w.frame, List.append_assoc]
  rw [frame, w.env_next hi h, trace, w.frame]

end

section
variable {s t v : State} {i : Instr} {rest : List (CmdWord × OpndWord)} {last : Answer}
  {more : List Answer} {issued : List Request}
variable (w : UnderWay s i rest (last :: more) issued t)
include w

/-- No data and no CS_FAULT is written on the way. -/
theorem UnderWay.unchanged : t.csFault = s.csFault ∧ t.rdata = s.rdata ∧ t.rdataValid = s.rdataValid ∧
    t.result = s.result ∧ t.scale = s.scale ∧ t.cfg = s.cfg := by
  rw [w.frame]
  exact ⟨rfl, rfl, rfl, rfl, rfl, rfl⟩

/-- What a completion leaves as it was offered. -/
theorem UnderWay.completed (hi : ¬ IsScaling i) (hv : exec i t = .next v)
    (ht : v.env.trace = t.env.trace) :
    v.env.trace = s.env.trace ++ issued ∧ v.env.answers = more ∧ v.env.cmdQueue = rest ∧
      v.result = s.result ∧ v.scale = s.scale ∧ v.cfg = s.cfg := by
  have env := w.env_next hi hv
  have frame := (exec_effect hi hv).frame
  obtain ⟨-, -, -, result, scale, cfg⟩ := w.unchanged
  exact ⟨ht.trans (congrArg (·.env.trace) w.frame), congrArg Env.answers env,
    congrArg Env.cmdQueue env, (congrArg State.result frame).trans result,
    (congrArg State.scale frame).trans scale, (congrArg State.cfg frame).trans cfg⟩

/-- CS_FAULT after a release's outcome (R28, R134). -/
theorem UnderWay.csFault_eq (hh : t.handle = s.handle)
    (hf : v.csFault = (t.csFault || t.outcome.failed)) :
    v.csFault = (s.csFault || (last.outcome s.handle.pollBudget).failed) := by
  rw [hf, w.outcome_eq, hh, w.unchanged.1]

end

theorem AnsweredOk.outcome_eq {budget : BitVec 16} {a : Answer} (h : AnsweredOk budget a) :
    a.outcome budget = .ok a.level := by
  unfold AnsweredOk at h
  unfold Answer.outcome at h ⊢
  split_ifs at h ⊢
  · cases h
  · rfl
  · cases h

theorem IsTransaction.not_isScaling {i : Instr} (h : IsTransaction i) : ¬ IsScaling i := by
  cases i with
  | readReg a => exact id
  | writeReg a v => exact id
  | _ => exact h.elim

/-! ## The body of a transaction -/

/-- The GETLs of a READ_REG, by index (R136). -/
theorem readSequence_getl_iff (h : HandleConfig) (a : RegAddr) {k : Nat} {p : Request}
    (hk : k < 97) (hp : (readSequence h a)[k]? = some p) :
    p.op = .readPinLevel ↔ 51 ≤ k ∧ k % 3 = 0 := by
  have op_at : ((readSequence h a).map Request.op)[k]? = some p.op := by
    rw [List.getElem?_map, hp]
    rfl
  have ops : ∀ k < 97, ((readSequence h a).map Request.op)[k]? = some .readPinLevel ↔
      51 ≤ k ∧ k % 3 = 0 := by
    have e : (readSequence h a).map Request.op =
        (readSequence HandleConfig.reset 0).map Request.op := rfl
    rw [e]
    decide
  rw [← ops k hk, op_at, Option.some.injEq]

/-- Transaction `i` of `s` has `as` answered, all OK, and its next primitive in flight in `t`. -/
structure TransactionRun (s : State) (i : Instr) (rest : List (CmdWord × OpndWord))
    (as left : List Answer) (t : State) : Prop where
  underWay : UnderWay s i rest left ((transactionSequence s.handle i).take (as.length + 1)) t
  handle : t.handle = s.handle
  index : t.sq.pidx.toNat = as.length
  stands : TransactionAt (transactionSequence s.handle i) t
  whole : t.sq.phase = .body ∨ t.sq.phase = .release
  /-- SHIFT holds the levels of the GETLs answered. -/
  received : ∀ a, i = .readReg a → ∀ j x, as[j]? = some x → 51 ≤ j → j % 3 = 0 →
    t.sq.shift.getLsbD (15 - (j - 51) / 3) = x.level

section
variable {s t : State} {i : Instr} {rest : List (CmdWord × OpndWord)} {as left : List Answer}

theorem TransactionRun.body (r : TransactionRun s i rest as left t) (h : as.length < 97) :
    t.sq.phase = .body := by
  refine r.whole.resolve_right fun hr => ?_
  have stands := r.stands
  rw [TransactionAt, hr] at stands
  have := stands.index
  have := r.index
  omega

theorem TransactionRun.release (r : TransactionRun s i rest as left t) (h : as.length = 97) :
    t.sq.phase = .release := by
  refine r.whole.resolve_left fun hb => ?_
  have := (r.stands.of_body hb).1
  have := r.index
  omega

/-- The acceptance issues the assert. -/
theorem TransactionOffered.start (h : TransactionOffered s i rest) :
    ∃ t, step s = .next t ∧ TransactionRun s i rest [] s.env.answers t := by
  obtain ⟨cmd, opnd, hd, hs⟩ := h.offered.step_eq
  have start := exec_transaction_start (s := s.accept cmd opnd rest) h.transaction rfl h.ready
    (addressValid_congr rfl h.address) h.free
  have first : (transactionSequence s.handle i).take 1 = [setl s.handle.pinCs .low] := by
    rw [transactionSequence_eq h.transaction]
    rfl
  refine ⟨_, hs.trans start, ?_, rfl, rfl, ?_, .inl rfl, by nofun⟩
  · rw [List.length_nil, Nat.zero_add, first]
    exact ⟨rfl, hd, rfl⟩
  · exact transactionAt_start (s := { s.accept cmd opnd rest with hstate := .transacting })
      h.transaction h.free

omit rest as left in
theorem exec_transaction_ok_phase {l : Level} (hi : IsTransaction i) (hp : s.sq.primPending = true)
    (hat : TransactionAt (transactionSequence s.handle i) s) (hb : s.sq.phase = .body)
    (ho : s.outcome = .ok l) (h : exec i s = .next t) :
    t.sq.phase = .body ∨ t.sq.phase = .release := by
  cases (exec_transaction_resume hi hp).symm.trans h
  obtain ⟨-, e⟩ | ⟨-, _, _, _, -, e⟩ := transactionResume_ok hi hat hb ho <;> rw [e]
  · exact .inr rfl
  · exact .inl rfl

/-- The GETLs' bits of SHIFT after one more answer: each GETL has its own bit. -/
theorem received_snoc {a : Answer} {w w' : Word16} {op : PrimOp}
    (old : ∀ j x, as[j]? = some x → 51 ≤ j → j % 3 = 0 → w.getLsbD (15 - (j - 51) / 3) = x.level)
    (hk : as.length < 97) (getl : op = .readPinLevel ↔ 51 ≤ as.length ∧ as.length % 3 = 0)
    (new : ∀ b, b < 16 → w'.getLsbD b =
      if op = .readPinLevel ∧ b = 15 - (as.length - 51) / 3 then a.level else w.getLsbD b)
    (j : Nat) (x : Answer) (hx : (as ++ [a])[j]? = some x) (hj : 51 ≤ j) (hm : j % 3 = 0) :
    w'.getLsbD (15 - (j - 51) / 3) = x.level := by
  rw [new _ (by omega)]
  obtain hlt | rfl | hgt := Nat.lt_trichotomy j as.length
  · rw [List.getElem?_append_left hlt] at hx
    rw [if_neg (by rw [getl]; omega), old j x hx hj hm]
  · rw [List.getElem?_concat_length, Option.some.injEq] at hx
    rw [if_pos ⟨getl.mpr ⟨hj, hm⟩, rfl⟩, hx]
  · rw [List.getElem?_eq_none (by simp; omega)] at hx
    cases hx

/-- An OK answer lets the next primitive be issued. -/
theorem TransactionRun.next {a : Answer} (h : TransactionOffered s i rest)
    (r : TransactionRun s i rest as (a :: left) t) (hk : as.length < 97)
    (ha : AnsweredOk s.handle.pollBudget a) :
    ∃ u, step t = .next u ∧ TransactionRun s i rest (as ++ [a]) left u := by
  have hi := h.transaction
  have hb := r.body hk
  have hp := r.underWay.pending
  have stands := r.stands
  rw [← r.handle] at stands ha
  have ho : t.outcome = .ok a.level := r.underWay.outcome_eq.trans ha.outcome_eq
  obtain ⟨u, hu, hpu, hidx, hreq, htr, hat, -, hshift, frame, -, -⟩ :=
    transactionPrimitiveOk t i a.level hi hp hb stands ho
  rw [r.handle] at hreq hat
  rw [r.index] at hidx
  have issued : (transactionSequence s.handle i).take ((as ++ [a]).length + 1) =
      (transactionSequence s.handle i).take (as.length + 1) ++ [u.sq.preq] := by
    rw [List.length_append, List.length_singleton, List.take_add_one, ← hidx, hreq]
    rfl
  refine ⟨u, (r.underWay.step_eq h.offered).trans hu, ?_, ?_, ?_, hat, ?_, ?_⟩
  · rw [issued]
    exact r.underWay.next hi.not_isScaling hu frame hpu htr
  · rw [frame]
    exact r.handle
  · rw [hidx, List.length_append, List.length_singleton]
  · exact exec_transaction_ok_phase hi hp stands hb ho hu
  · rintro addr rfl
    have in_flight : (readSequence s.handle addr)[as.length]? = some t.sq.preq := by
      obtain ⟨-, seq, -⟩ := r.stands.of_body hb
      rw [r.index] at seq
      rw [← List.head?_drop]
      exact (congrArg List.head? seq).symm
    rw [r.index] at hshift
    exact received_snoc (r.received addr rfl) hk (readSequence_getl_iff s.handle addr hk in_flight)
      hshift

/-- A whole body: one step for the acceptance and one for each OK answer (R136). -/
theorem TransactionOffered.run (h : TransactionOffered s i rest) (hlen : as.length ≤ 97)
    (hok : ∀ x ∈ as, AnsweredOk s.handle.pollBudget x) (ha : Answers s as left) :
    ∃ t, s.after (as.length + 1) = .next t ∧ TransactionRun s i rest as left t := by
  induction as using List.reverseRecOn generalizing left with
  | nil =>
    obtain ⟨t, hs, r⟩ := h.start
    have hleft : s.env.answers = left := ha
    exact ⟨t, State.after_one hs, hleft ▸ r⟩
  | append_singleton as a ih =>
    rw [List.length_append, List.length_singleton] at hlen
    obtain ⟨t, ht, r⟩ := ih (left := a :: left) (by omega)
      (fun x hx => hok x (List.mem_append_left _ hx)) (ha.trans (by simp))
    obtain ⟨u, hu, r'⟩ := r.next h (by omega) (hok a (by simp))
    exact ⟨u, by rw [List.length_append]; exact State.after_step ht hu, r'⟩

/-- A whole transaction: after the body the release is in flight, and its outcome completes the command. -/
theorem TransactionOffered.run_whole {last : Answer} (h : TransactionOffered s i rest)
    (hlen : as.length = 97) (hok : ∀ x ∈ as, AnsweredOk s.handle.pollBudget x)
    (ha : Answers s (as ++ [last]) left) :
    ∃ t, TransactionRun s i rest as (last :: left) t ∧ t.sq.phase = .release ∧
      s.after 99 = (exec i t) := by
  obtain ⟨t, ht, r⟩ := h.run (left := last :: left) hlen.le hok (ha.trans (by simp))
  refine ⟨t, r, r.release hlen, ?_⟩
  rw [hlen] at ht
  obtain ⟨v, hv⟩ := exec_total i t
  rw [hv]
  exact State.after_step ht ((r.underWay.step_eq h.offered).trans hv)

end

/-- A whole transaction has issued its sequence. -/
theorem TransactionRun.issued_whole {s t : State} {i : Instr} {rest : List (CmdWord × OpndWord)}
    {as left : List Answer} (r : TransactionRun s i rest as left t) (hi : IsTransaction i)
    (hlen : as.length = 97) : UnderWay s i rest left (transactionSequence s.handle i) t := by
  have w := r.underWay
  rwa [hlen, List.take_of_length_le (transactionSequence_length hi _).le] at w

/-- The release in flight has deselected the device. -/
theorem TransactionAt.deselected_of_release {l : List Request} {t : State} (h : TransactionAt l t)
    (hr : t.sq.phase = .release) : t.csAsserted = false := by
  rw [TransactionAt, hr] at h
  exact h.deselected

/-- Settles O36: the release's outcome completes the READ_REG with SHIFT, which holds the GETLs' levels. -/
theorem readRegReturnsWord : Obligations.ReadRegReturnsWord := by
  intro s a rest as more last h ha hlen hok
  obtain ⟨t, r, hr, run⟩ := h.run_whole hlen hok ha
  have w := r.issued_whole h.transaction hlen
  obtain ⟨v, hv, hdata, hvalid, hstate, hfault, hst, herr, hb, hrsp, -, -, frame, ht⟩ :=
    (readRegCompletes t a w.pending).1 hr
  obtain ⟨trace, answers, queue, result, scale, cfg⟩ := w.completed id hv ht
  refine ⟨v, run.trans hv, fun i hi => ?_, hvalid, hst, herr, hstate,
    (congrArg State.csAsserted frame).trans (r.stands.deselected_of_release hr),
    w.csFault_eq r.handle hfault, hb, hrsp, trace, answers, queue, result, scale,
    (congrArg State.handle frame).trans r.handle, cfg⟩
  have level := r.received a rfl (51 + 3 * (15 - i)) _ (List.getElem?_eq_getElem (by omega))
    (by omega) (by omega)
  rw [List.getElem?_eq_getElem (by omega), hdata, Option.map_some, ← level]
  congr 2
  omega

/-- Settles O37: the release's outcome completes the WRITE_REG, which writes no data. -/
theorem writeRegSendsWord : Obligations.WriteRegSendsWord := by
  intro s a value rest as more last h ha hlen hok
  obtain ⟨t, r, hr, run⟩ := h.run_whole hlen hok ha
  have w := r.issued_whole h.transaction hlen
  obtain ⟨v, hv, hstate, hfault, hst, herr, hb, hrsp, -, -, frame, ht⟩ :=
    (writeRegCompletes t a value w.pending).1 hr
  obtain ⟨trace, answers, queue, result, scale, cfg⟩ := w.completed id hv ht
  obtain ⟨-, rdata, valid, -, -, -⟩ := w.unchanged
  exact ⟨v, run.trans hv, hst, herr, hstate,
    (congrArg State.csAsserted frame).trans (r.stands.deselected_of_release hr),
    w.csFault_eq r.handle hfault, hb, hrsp, trace, answers, queue,
    (congrArg State.rdata frame).trans rdata, (congrArg State.rdataValid frame).trans valid, result, scale,
    (congrArg State.handle frame).trans r.handle, cfg⟩

/-! ## A transaction that fails -/

/-- A transaction whose primitive `as.length` fails has its release in flight next, whose outcome completes
it. -/
theorem TransactionOffered.run_failed {s : State} {i : Instr} {rest : List (CmdWord × OpndWord)}
    {as left : List Answer} {bad last : Answer} (h : TransactionOffered s i rest)
    (hlen : as.length ≤ 96) (hok : ∀ x ∈ as, AnsweredOk s.handle.pollBudget x)
    (hbad : (bad.outcome s.handle.pollBudget).failed = true)
    (ha : Answers s (as ++ [bad, last]) left) :
    ∃ u, UnderWay s i rest (last :: left) ((transactionSequence s.handle i).take (as.length + 1) ++
        [setl s.handle.pinCs .high]) u ∧ u.handle = s.handle ∧ u.csAsserted = false ∧
      u.sq.phase = .cleanup (causeOf (bad.outcome s.handle.pollBudget)) (BitVec.ofNat 8 as.length) ∧
      s.after (as.length + 3) = exec i u := by
  obtain ⟨t, ht, r⟩ := h.run (left := bad :: last :: left) (by omega) hok (ha.trans (by simp))
  have ho : t.outcome = bad.outcome s.handle.pollBudget := by rw [r.underWay.outcome_eq, r.handle]
  have index : t.sq.pidx = BitVec.ofNat 8 as.length := by
    rw [← r.index, BitVec.ofNat_toNat, BitVec.setWidth_eq]
  obtain ⟨u, hu, hpu, -, -, phase, htr, frame⟩ := transactionPrimitiveFails t i h.transaction
    r.underWay.pending (r.body (by omega)) (by rw [ho]; exact hbad)
  have ns := h.transaction.not_isScaling
  have frame' : u = { t with csAsserted := u.csAsserted, sq := u.sq, env := u.env } := by
    rw [frame]
  rw [r.handle] at htr
  have w := r.underWay.next ns hu frame' hpu htr
  refine ⟨u, w, (congrArg State.handle frame).trans r.handle, congrArg State.csAsserted frame, ?_, ?_⟩
  · rw [phase, causeOf_of_failed hbad, ho, index]
  · obtain ⟨v, hv⟩ := exec_total i u
    have first := State.after_step ht ((r.underWay.step_eq h.offered).trans hu)
    rw [hv]
    exact State.after_step first ((w.step_eq h.offered).trans hv)

/-- Settles O38: the failure issues the release, whose outcome completes the command. -/
theorem transactionFailureReleases : Obligations.TransactionFailureReleases := by
  intro s i rest as more bad last h ha hlen hok hbad
  obtain ⟨u, w, handle, free, phase, run⟩ := h.run_failed hlen hok hbad ha
  have done := exec_transaction_cleaned h.transaction w.pending phase
  obtain ⟨⟨r, b, frame⟩, -, -⟩ := readWrites_abortOf i
    { u.settle.noteRelease u.outcome with hstate := .ready }
  rw [frame] at done
  obtain ⟨trace, answers, queue, result, scale, cfg⟩ :=
    w.completed h.transaction.not_isScaling done u.env.consume_trace
  refine ⟨_, run.trans done, rfl, ?_, rfl, free, rfl, rfl, w.csFault_eq handle rfl, ?_, answers, result⟩
  · rw [State.complete_errInfo, errInfoWord, code_causeOf_of_failed hbad]
  · rw [trace, List.append_assoc]

end Sys2Proof.Machine

/-! SUPPORT. Whole runs of INIT, and the mock (O24, O39). -/

namespace Sys2Proof.Machine

/-! ## The mock's device -/

theorem devGet_devPut (d : Dev) (a b : RegAddr) (v : Word16) :
    devGet (devPut d a v) b = if b = a then v else devGet d b := by
  unfold devGet devPut
  split
  · next e => rw [e, cellsGet_put_same, Option.getD_some]
  · next e => rw [cellsGet_put_other fun h => e (BitVec.eq_of_toNat_eq h)]

section
variable {d : Dev} {budget : BitVec 16} {as : List Answer} {a : RegAddr} {v : Word16}

theorem mockAfterWrite_of_ok (hlen : 97 ≤ as.length)
    (hok : ∀ x ∈ as.take 97, (x.outcome budget).failed = false) :
    mockAfterWrite d budget as a v = devPut d a v :=
  if_pos (by simpa [hlen] using hok)

theorem mockAfterWrite_of_short_or_failed
    (h : as.length < 97 ∨ ∃ x ∈ as.take 97, (x.outcome budget).failed = true) :
    mockAfterWrite d budget as a v = d := by
  refine if_neg fun hc => ?_
  rw [Bool.and_eq_true, decide_eq_true_eq, List.all_eq_true] at hc
  obtain ⟨hlen, hok⟩ := hc
  obtain h | ⟨x, hx, hf⟩ := h
  · omega
  · simpa [hf] using hok x hx

/-- Writing back what the device holds changes nothing. -/
theorem mockAfterWrite_self (hd : cellsWf d) (hw : cellsGet a.toNat d = some v) :
    mockAfterWrite d budget as a v = d := by
  unfold mockAfterWrite
  split
  · exact cellsPut_get_self hd hw
  · rfl

end

/-! ## The mock's answers -/

theorem answeredOk_answerOk {budget : BitVec 16} (hb : budget ≠ 0) (l : Level) :
    AnsweredOk budget (answerOk l) := by
  have : 0 + 1 ≤ budget.toNat := Nat.one_le_iff_ne_zero.mpr fun h => hb (BitVec.eq_of_toNat_eq h)
  simp [AnsweredOk, Answer.outcome, Answer.inTime, answerOk, PrimOutcome.failed, this]

/-- The answers to a READ_REG's primitives before its release. -/
def answersBeforeRelease (w : Word16) : List Answer :=
  List.replicate 49 (answerOk false) ++
    msbFirst.flatMap fun i => [answerOk false, answerOk false, answerOk (w.getLsbD i)]

theorem answersReading_eq (w : Word16) :
    answersReading w = answersBeforeRelease w ++ [answerOk false] := rfl

theorem answersBeforeRelease_length (w : Word16) : (answersBeforeRelease w).length = 97 := rfl

theorem answersBeforeRelease_getElem? (w : Word16) {i : Nat} (hi : i ≤ 15) :
    (answersBeforeRelease w)[51 + 3 * (15 - i)]? = some (answerOk (w.getLsbD i)) := by
  have index : 51 + 3 * (15 - i) = (List.replicate 49 (answerOk false)).length + (3 * (15 - i) + 2) := by
    rw [List.length_replicate]
    omega
  rw [answersBeforeRelease, index, List.getElem?_append_right (Nat.le_add_right ..),
    Nat.add_sub_cancel_left]
  exact (getElem?_msbFirst_flatMap (fun _ => answerOk false) (fun _ => answerOk false) _ hi).2.2

theorem answeredOk_of_mem_answersReading {budget : BitVec 16} (hb : budget ≠ 0) {w : Word16}
    {x : Answer} (hx : x ∈ answersReading w) : AnsweredOk budget x := by
  simp only [answersReading, List.mem_append, List.mem_replicate, List.mem_flatMap, List.mem_cons,
    List.not_mem_nil, or_false] at hx
  obtain (⟨-, rfl⟩ | ⟨i, -, rfl | rfl | rfl⟩) | rfl := hx <;> exact answeredOk_answerOk hb _

/-- An OK READ_REG returns the word its answers carry (R133, R136). -/
theorem readReg_returns {s : State} {a : RegAddr} {w : Word16} {rest : List (CmdWord × OpndWord)}
    {more : List Answer} (h : TransactionOffered s (.readReg a) rest)
    (ha : Answers s (answersReading w) more) (hb : s.handle.pollBudget ≠ 0) :
    ∃ t, s.after 99 = .next t ∧ t.rdata = w ∧ t.rdataValid = true ∧ t.status = .ok := by
  rw [answersReading_eq] at ha
  obtain ⟨t, run, bits, valid, ok, -⟩ := readRegReturnsWord s a rest _ more _ h ha
    (answersBeforeRelease_length w) fun x hx => answeredOk_of_mem_answersReading hb (w := w)
      (by rw [answersReading_eq]; exact List.mem_append_left _ hx)
  refine ⟨t, run, BitVec.eq_of_getLsbD_eq fun i hi => ?_, valid, ok⟩
  have level := bits i (by omega)
  rw [answersBeforeRelease_getElem? w (by omega)] at level
  exact (Option.some.inj level).symm

/-- A READ_REG whose primitive `k` fails, after the mock's OKs, ends with BUS_ERROR at `k` and no word. -/
theorem readReg_fails {s : State} {a : RegAddr} {w : Word16} {rest : List (CmdWord × OpndWord)}
    {more : List Answer} {k : Nat} {bad release : Answer}
    (h : TransactionOffered s (.readReg a) rest) (hk : k ≤ 96)
    (ha : Answers s ((answersReading w).take k ++ [bad, release]) more)
    (hb : s.handle.pollBudget ≠ 0) (hbad : (bad.outcome s.handle.pollBudget).failed = true) :
    ∃ t, s.after (k + 3) = .next t ∧ t.rdata = 0 ∧ t.rdataValid = false ∧ t.status = .busError ∧
      t.errInfo.extractLsb' 8 8 = BitVec.ofNat 8 k ∧ t.env.answers = more := by
  have hlen : ((answersReading w).take k).length = k := by
    rw [List.length_take]
    exact min_eq_left (hk.trans (by rw [answersReading_eq]; simp [answersBeforeRelease_length]))
  obtain ⟨u, way, -, -, phase, run⟩ := h.run_failed (by omega)
    (fun x hx => answeredOk_of_mem_answersReading hb (List.mem_of_mem_take hx)) hbad ha
  rw [hlen] at phase run
  obtain ⟨v, hv, rdata, valid, -, -, status, err, -, -, -, -, -, ht⟩ :=
    (readRegCompletes u a way.pending).2 _ _ phase
  obtain ⟨-, answers, -⟩ := way.completed id hv ht
  refine ⟨v, run.trans hv, rdata, valid, status, ?_, answers⟩
  rw [err]
  exact BitVec.extractLsb'_append_eq_left

/-- Settles O39: the mock's answers make READ_REG return DEV[a] or fail where named, and a WRITE_REG
writes DEV only when its body is answered OK. -/
theorem mockRoundTrip : Obligations.MockRoundTrip := by
  refine ⟨fun s a d rest more h ha hb => readReg_returns h ha hb,
    fun s a d rest more k bad release h hk ha hb hbad => ?_, fun d a b v budget as hlen hok => ?_,
    fun d a v budget as h => mockAfterWrite_of_short_or_failed h,
    fun d a w budget as hd hw => mockAfterWrite_self hd hw, fun d budget as i hi => ?_⟩
  · have releases : releasesAfterFailure k (.readReg a) = true := decide_eq_true (by omega)
    rw [mockAnswersFailing, releases] at ha
    exact readReg_fails h hk ha hb hbad
  · rw [mockAfter, mockAfterWrite_of_ok hlen hok, devGet_devPut]
  · cases i with
    | writeReg a v => exact absurd rfl (hi a v)
    | _ => rfl

/-! ## A whole INIT -/

/-- INIT goes on with the next primitive (R200). -/
theorem initResume_of_ok {s : State} {l : Level} {p : Request} {more : List Request}
    (ho : s.outcome = .ok l) (hs : s.sq.seq = p :: more) :
    initResume s = s.settle.issue p more (s.sq.pidx + 1) .body := by
  simp [initResume, ho, hs]

/-- INIT of `h`, offered in `s`, has `as` answered, all OK, and its next primitive in flight in `t`. -/
structure InitRun (s : State) (i : Instr) (h : HandleConfig) (rest : List (CmdWord × OpndWord))
    (as left : List Answer) (t : State) : Prop where
  underWay : UnderWay s i rest left ((initSequence h).take (as.length + 1)) t
  handle : t.handle = h
  free : t.csAsserted = s.csAsserted
  stands : t.sq.preq :: t.sq.seq = (initSequence h).drop as.length

section
variable {s t : State} {budget : BitVec 16} {cs dr rst dout din sclk : PinId}
  {rest : List (CmdWord × OpndWord)} {as left : List Answer}

/-- The acceptance of an INIT past its checks issues its first primitive. -/
theorem Offered.start_init (h : Offered s (.init budget cs dr rst dout din sclk 0) rest)
    (hs : s.hstate = .uninitialized) (hg : s.env.gpioReady = true)
    (hb : HandleBound ⟨cs, dr, rst, dout, din, sclk, 0, budget⟩) :
    ∃ t, step s = .next t ∧ InitRun s (.init budget cs dr rst dout din sclk 0)
      ⟨cs, dr, rst, dout, din, sclk, 0, budget⟩ rest [] s.env.answers t := by
  obtain ⟨cmd, opnd, hd, e⟩ := h.step_eq
  rw [exec_init_of_idle rfl, initBegin_of_checked (s := s.accept cmd opnd rest) hs hg hb] at e
  exact ⟨_, e, ⟨rfl, hd, rfl⟩, rfl, rfl, rfl⟩

section
variable {clksel : BitVec 4} {h : HandleConfig} {a : Answer}
variable (ho : Offered s (.init budget cs dr rst dout din sclk clksel) rest)
  (r : InitRun s (.init budget cs dr rst dout din sclk clksel) h rest as (a :: left) t)
  (ha : AnsweredOk h.pollBudget a)
include ho r ha

theorem InitRun.step_eq : t.outcome = .ok a.level ∧ step t = .next (initResume t) := by
  refine ⟨?_, ?_⟩
  · rw [r.underWay.outcome_eq, r.handle, ha.outcome_eq]
  · rw [r.underWay.step_eq ho, exec_init_of_pending r.underWay.pending]

omit ho ha in
theorem InitRun.seq_eq : t.sq.seq = (initSequence h).drop (as.length + 1) := by
  rw [← List.tail_drop, ← r.stands, List.tail_cons]

/-- An OK answer before the last lets the next primitive be issued. -/
theorem InitRun.next (hk : as.length < 9) :
    ∃ u, step t = .next u ∧
      InitRun s (.init budget cs dr rst dout din sclk clksel) h rest (as ++ [a]) left u := by
  obtain ⟨out, run⟩ := r.step_eq ho ha
  have more : as.length + 1 < (initSequence h).length := by
    change _ < 10
    omega
  have seq := r.seq_eq.trans (List.drop_eq_getElem_cons more)
  have issued : (initSequence h).take ((as ++ [a]).length + 1) =
      (initSequence h).take (as.length + 1) ++ [(initSequence h)[as.length + 1]] := by
    rw [List.length_append, List.length_singleton, List.take_add_one, List.getElem?_eq_getElem more]
    rfl
  rw [initResume_of_ok out seq] at run
  refine ⟨_, run, ?_, r.handle, r.free, ?_⟩
  · rw [issued]
    exact r.underWay.next id ((r.underWay.step_eq ho).symm.trans run) rfl rfl
      (congrArg (· ++ _) t.env.consume_trace)
  · rw [List.length_append, List.length_singleton, List.drop_eq_getElem_cons more]
    rfl

/-- The last OK answer completes INIT with the handle READY. -/
theorem InitRun.last (hk : as.length = 9) :
    step t = .next ({ t.settle with hstate := .ready }.complete .ok .none 0) := by
  obtain ⟨out, run⟩ := r.step_eq ho ha
  have seq : t.sq.seq = [] := by
    rw [r.seq_eq, hk]
    rfl
  rw [run]
  simp [initResume, out, seq]

end

/-- The run of an INIT up to its last primitive: one step for the acceptance and one for each OK answer. -/
theorem Offered.run_init (h : Offered s (.init budget cs dr rst dout din sclk 0) rest)
    (hs : s.hstate = .uninitialized) (hg : s.env.gpioReady = true)
    (hb : HandleBound ⟨cs, dr, rst, dout, din, sclk, 0, budget⟩) (hlen : as.length ≤ 9)
    (hok : ∀ x ∈ as, AnsweredOk budget x) (ha : Answers s as left) :
    ∃ t, s.after (as.length + 1) = .next t ∧ InitRun s (.init budget cs dr rst dout din sclk 0)
      ⟨cs, dr, rst, dout, din, sclk, 0, budget⟩ rest as left t := by
  induction as using List.reverseRecOn generalizing left with
  | nil =>
    obtain ⟨t, run, r⟩ := h.start_init hs hg hb
    have hleft : s.env.answers = left := ha
    exact ⟨t, State.after_one run, hleft ▸ r⟩
  | append_singleton as a ih =>
    rw [List.length_append, List.length_singleton] at hlen
    obtain ⟨t, ht, r⟩ := ih (left := a :: left) (by omega)
      (fun x hx => hok x (List.mem_append_left _ hx)) (ha.trans (by simp))
    obtain ⟨u, hu, r'⟩ := r.next h (hok a (by simp)) (by omega)
    exact ⟨u, by rw [List.length_append]; exact State.after_step ht hu, r'⟩

end

/-- Settles O24: nine OK answers issue the other nine primitives, and the tenth completes INIT. -/
theorem initMakesHandleReady : Obligations.InitMakesHandleReady := by
  intro s budget cs dr rst dout din sclk rest as more h hs hc hg hd hb ha hlen hok
  obtain ⟨as, a, rfl⟩ : ∃ l a, as = l ++ [a] :=
    ⟨_, _, (List.dropLast_concat_getLast (List.ne_nil_of_length_pos (by omega))).symm⟩
  have nine : as.length = 9 := by simpa using hlen
  obtain ⟨t, ht, r⟩ := h.run_init (left := a :: more) hs hg ⟨hd, rfl, hb⟩ nine.le
    (fun x hx => hok x (List.mem_append_left _ hx)) (ha.trans (by simp))
  have run := r.last h (hok a (by simp)) nine
  have w := r.underWay
  rw [nine] at ht w
  obtain ⟨trace, answers, queue, result, scale, -⟩ :=
    w.completed id ((w.step_eq h).symm.trans run) t.env.consume_trace
  obtain ⟨fault, rdata, valid, -⟩ := w.unchanged
  exact ⟨_, State.after_step ht run, rfl, rfl, rfl, rfl, rfl, r.free.trans hc, fault, r.handle, trace,
    answers, queue, rdata, valid, result, scale⟩

end Sys2Proof.Machine
